-- ==== Sys2Proof/Word.lean ====
section
/-! DEFINITION. The word types of the block: spec/00_scope.md R9, spec/30_encoding.md R81, R82. -/

namespace Sys2Proof

/-- A byte: the width of every register of the block (R32 to R36). -/
abbrev Byte := BitVec 8

/-- What one register transaction moves, REG_BITS = 32 bits (R61). -/
abbrev Word := BitVec 32

/-- A `BUS` word `T`: W at bit 39, OFF at 38:32, DATA at 31:0 (R81). -/
abbrev BusWord := BitVec 40

/-- A `CTRL` word `K`: OP at bits 63:32, ARG at 31:0 (R82). -/
abbrev CtrlWord := BitVec 64

end Sys2Proof
end

