-- ==== Sys2Proof/Config.lean ====
section
/-! DEFINITION. The configuration record of spec/00_scope.md R5, and the free values (`draw N`, R10).
The values the hardware takes and the constraints on them are in Machine/Params.lean. -/

namespace Sys2Proof

/-- The parameters of R5, one field each.  `REG_BITS` is also the width of `Word`. -/
structure Config where
  /-- `C`, capacity of the receive buffer in bytes. -/
  capacity    : Nat
  /-- `CLOCK_HZ`, an unsigned 32-bit number (D15). -/
  clockHz     : BitVec 32
  /-- `BAUD`, the target baud rate. -/
  baud        : Nat
  /-- `STRIDE`, byte stride of one register slot. -/
  stride      : Nat
  /-- `REG_BITS`, width of a register transaction. -/
  regBits     : Nat
  /-- `BASE`, byte address of word offset 0. -/
  base        : Nat
  /-- `OFF_RXD`. -/
  offRxd      : Nat
  /-- `OFF_TXD`. -/
  offTxd      : Nat
  /-- `OFF_DLL`. -/
  offDll      : Nat
  /-- `OFF_DLH`. -/
  offDlh      : Nat
  /-- `OFF_IER`. -/
  offIer      : Nat
  /-- `OFF_FCR`. -/
  offFcr      : Nat
  /-- `OFF_LCR`. -/
  offLcr      : Nat
  /-- `OFF_LSR`. -/
  offLsr      : Nat
  /-- `OFF_MODE`. -/
  offMode     : Nat
  /-- `LSR_TXRDY`, mask. -/
  lsrTxrdy    : Byte
  /-- `LCR_WLEN_MASK`, mask. -/
  lcrWlenMask : Byte
  /-- `LCR_WLEN8`, the word-length code for 8 data bits. -/
  lcrWlen8    : Byte
  /-- `LCR_DLE`, mask. -/
  lcrDle      : Byte
  /-- `IER_RDI`, mask. -/
  ierRdi      : Byte
  /-- `FCR_CLR_RX`, mask. -/
  fcrClrRx    : Byte
  /-- `FCR_CLR_TX`, mask. -/
  fcrClrTx    : Byte
  /-- `MODE_EXT`, a Mode value. -/
  modeExt     : Byte
  /-- `MODE_NORMAL`, a Mode value. -/
  modeNormal  : Byte
  /-- `CNT_BITS`, width of `tx_counter`. -/
  cntBits     : Nat
  /-- `RX_DEPTH`, bytes the receive holding holds. -/
  rxDepth     : Nat
  /-- `TX_FAIR`: read by the run premise of Safety.lean, by no step (R131). -/
  txFair      : Bool
  /-- `N_CORES`. -/
  nCores      : Nat
  /-- `IRQ_ID`. -/
  irqId       : Nat
  deriving DecidableEq, Repr

/-- `draw 8`: a byte no rule fixes, one for each value of the counter `draws` (R10; log 7). -/
opaque Config.freeByte : Nat → BitVec 8

/-- `draw 24`: bits 31:8 of a read result (R61; log 7). -/
opaque Config.freeUpper : Nat → BitVec 24

/-- `draw 32`: the result of a read of FIFO Control (R112; log 7). -/
opaque Config.freeWord : Nat → BitVec 32

/-- The transmit holding after power-up or teardown: "empty or any byte" (R47; log 14). -/
opaque Config.freeHold : Nat → Option (BitVec 8)

/-- The receive holding after power-up or teardown, before it is cut to RX_DEPTH bytes (R47; log 14). -/
opaque Config.freeBytes : Nat → List (BitVec 8)

end Sys2Proof
end

