-- ==== Sys2Proof/Machine/Params.lean ====
section
/-! DEFINITION. The values of the parameters (spec/00_scope.md R5), the constraints on them (R6, R62),
slot addresses (spec/20_memory.md R60, spec/30_encoding.md R85) and the baud divisor (spec/43_init.md R183). -/

namespace Sys2Proof

/-- The "value" column of R5.  CLOCK_HZ is the source's scenario; BASE, IRQ_ID and N_CORES are open there
(DESIGN CHOICE, log 4); the offsets, masks and codes are the spec's defaults (PRESUMED there, marked GK, log 5). -/
def Config.hw : Config where
  capacity    := 16
  clockHz     := 48000000#32
  baud        := 115200
  stride      := 4
  regBits     := 32
  base        := 0
  offRxd      := 0
  offTxd      := 0
  offDll      := 0
  offDlh      := 1
  offIer      := 1
  offFcr      := 2
  offLcr      := 3
  offLsr      := 5
  offMode     := 8
  lsrTxrdy    := 0x20#8
  lcrWlenMask := 0x03#8
  lcrWlen8    := 0x03#8
  lcrDle      := 0x80#8
  ierRdi      := 0x01#8
  fcrClrRx    := 0x02#8
  fcrClrTx    := 0x04#8
  modeExt     := 0x07#8
  modeNormal  := 0x00#8
  cntBits     := 32
  rxDepth     := 1
  txFair      := false
  nCores      := 1
  irqId       := 0

/-- `d = floor(floor(CLOCK_HZ / 16) / BAUD)` (R183). -/
def Config.divisor (c : Config) : Nat := c.clockHz.toNat / 16 / c.baud

/-- Byte address of a slot: `BASE + STRIDE * off` (R60, R85). -/
def Config.slotAddress (c : Config) (off : Nat) : Nat := c.base + c.stride * off

/-- The offsets of the data, latch and interrupt-enable registers, which may coincide (R6). -/
def Config.overlaidOffsets (c : Config) : List Nat := [c.offRxd, c.offTxd, c.offDll, c.offDlh, c.offIer]

/-- The offsets that are pairwise distinct and distinct from the overlaid ones (R6). -/
def Config.ownOffsets (c : Config) : List Nat := [c.offFcr, c.offLcr, c.offLsr, c.offMode]

/-- R6 on the offsets: FCR, LCR, LSR and MODE stand alone and every offset fits 7 bits. -/
def Config.offsetsValid (c : Config) : Bool :=
  decide c.ownOffsets.Nodup
    && c.ownOffsets.all (fun o => !c.overlaidOffsets.contains o)
    && (c.ownOffsets ++ c.overlaidOffsets).all (fun o => decide (o < 128))

/-- R6 on the masks and codes. -/
def Config.masksValid (c : Config) : Bool :=
  c.lcrWlenMask &&& c.lcrDle == 0#8 && c.fcrClrRx &&& c.fcrClrTx == 0#8 && c.modeExt != c.modeNormal

/-- R6, R62 and the bounds of R5: a configuration for which this is false is refused before any step
(`BadConfig`, R206).  STRIDE and REG_BITS are fixed by the source (log 1). -/
def Config.valid (c : Config) : Bool :=
  decide (2 ≤ c.capacity) && decide (1 ≤ c.rxDepth) && decide (1 ≤ c.nCores)
    && decide (c.stride = 4) && decide (c.regBits = 32) && decide (c.base % 4 = 0)
    && c.offsetsValid && c.masksValid
    && decide (1 ≤ c.divisor) && decide (c.divisor ≤ 65535)

end Sys2Proof
end

