-- ==== Sys2Proof/Syntax.lean ====
section
/-! DEFINITION. The instructions: one constructor per row of spec/opcode_table.json (spec/30_encoding.md R80, R87).
A write carries its 32-bit `DATA`, a control operation its 32-bit `ARG`; a read has no operand (R81, R82). -/

namespace Sys2Proof

/-- The registers a `BUS` word can reach (R83). -/
inductive Reg where
  | rxd | txd | dll | dlh | ier | fcr | lcr | lsr | mode
  deriving DecidableEq, Repr

/-- One register transaction or one control operation. -/
inductive Instr where
  /-- `RD.RXD`, R104. -/
  | rdRxd
  /-- `WR.TXD v`, R103. -/
  | wrTxd (v : Word)
  /-- `RD.DLL`, R108. -/
  | rdDll
  /-- `WR.DLL v`, R107. -/
  | wrDll (v : Word)
  /-- `RD.IER`, R114. -/
  | rdIer
  /-- `WR.IER v`, R113. -/
  | wrIer (v : Word)
  /-- `RD.DLH`, R110. -/
  | rdDlh
  /-- `WR.DLH v`, R109. -/
  | wrDlh (v : Word)
  /-- `RD.FCR`, R112. -/
  | rdFcr
  /-- `WR.FCR v`, R111. -/
  | wrFcr (v : Word)
  /-- `RD.LCR`, R106. -/
  | rdLcr
  /-- `WR.LCR v`, R105. -/
  | wrLcr (v : Word)
  /-- `RD.LSR`, R101. -/
  | rdLsr
  /-- `WR.LSR v`, R102. -/
  | wrLsr (v : Word)
  /-- `RD.MODE`, R116. -/
  | rdMode
  /-- `WR.MODE v`, R115. -/
  | wrMode (v : Word)
  /-- `CTRL.RESET`, R135; `arg` is ignored. -/
  | ctrlReset (arg : Word)
  /-- `CTRL.GET`, R137; `arg` is ignored. -/
  | ctrlGet (arg : Word)
  deriving DecidableEq, Repr

/-- The register and direction (`true` = write) of a transaction, none for a control operation. -/
def Instr.access : Instr → Option (Reg × Bool)
  | .rdRxd => some (.rxd, false)
  | .wrTxd _ => some (.txd, true)
  | .rdDll => some (.dll, false)
  | .wrDll _ => some (.dll, true)
  | .rdIer => some (.ier, false)
  | .wrIer _ => some (.ier, true)
  | .rdDlh => some (.dlh, false)
  | .wrDlh _ => some (.dlh, true)
  | .rdFcr => some (.fcr, false)
  | .wrFcr _ => some (.fcr, true)
  | .rdLcr => some (.lcr, false)
  | .wrLcr _ => some (.lcr, true)
  | .rdLsr => some (.lsr, false)
  | .wrLsr _ => some (.lsr, true)
  | .rdMode => some (.mode, false)
  | .wrMode _ => some (.mode, true)
  | .ctrlReset _ => none
  | .ctrlGet _ => none

end Sys2Proof
end

