-- ==== Sys2Proof/WellFormed.lean ====
section
/-! DEFINITION. Which instructions can be written down as a word that reaches their register, for given parameters and a
given divisor-latch-enable bit (spec/30_encoding.md R81, R86, R89). -/

namespace Sys2Proof

/-- The word offset of a register (R5, R83). -/
def Config.offset (c : Config) : Reg → Nat
  | .rxd => c.offRxd
  | .txd => c.offTxd
  | .dll => c.offDll
  | .dlh => c.offDlh
  | .ier => c.offIer
  | .fcr => c.offFcr
  | .lcr => c.offLcr
  | .lsr => c.offLsr
  | .mode => c.offMode

/-- The offset fits the 7-bit field `OFF` (R6, R81). -/
def Config.encodable (c : Config) (r : Reg) : Bool := decide (c.offset r < 128)

/-- The open divisor latches hide what else lies at their offsets (R89). -/
def Config.hiddenByLatch (c : Config) (dle : Bool) (off : Nat) : Bool :=
  dle && (off == c.offDll || off == c.offDlh)

/-- The register is the one its offset reaches: the latches only while they are open, the data registers and Interrupt
Enable only where no open latch hides them, and no register behind another one at the same offset (R86). -/
def Config.reachable (c : Config) (dle : Bool) (r : Reg) (write : Bool) : Bool :=
  match r with
  | .dll => dle
  | .dlh => dle && c.offDlh != c.offDll
  | .rxd => !write && !c.hiddenByLatch dle c.offRxd
  | .txd => write && !c.hiddenByLatch dle c.offTxd
  | .ier => !c.hiddenByLatch dle c.offIer && c.offIer != (if write then c.offTxd else c.offRxd)
  | .fcr | .lcr | .lsr | .mode => true

/-- An instruction that has a word reaching its register.  Control operations always have one (R82). -/
def Instr.wellFormed (c : Config) (dle : Bool) (i : Instr) : Bool :=
  match i.access with
  | none => true
  | some (r, write) => c.encodable r && c.reachable dle r write

end Sys2Proof
end

