-- ==== Sys2Proof/Decode.lean ====
section
/-! DEFINITION. Decoding of `BUS` and `CTRL` words, total, rejecting by name (spec/30_encoding.md R81, R82, R86 to R88),
and the encoder written from the same formats. -/

namespace Sys2Proof

/-- A word of either format (R80). -/
inductive OpWord where
  | bus (t : BusWord)
  | ctrl (k : CtrlWord)
  deriving DecidableEq, Repr

/-- Why a word is no instruction. -/
inductive DecodeError where
  /-- A `BUS` word that decodes to `NONE` (R86, R88). -/
  | reservedOffset
  /-- A `CTRL` word with `OP` not 0 or 1 (R82, R88). -/
  | invalidOperation
  deriving DecidableEq, Repr

/-- `W`, bit 39 (R81). -/
def busWrite (t : BusWord) : Bool := t.getLsbD 39

/-- `OFF`, bits 38:32 (R81). -/
def busOffset (t : BusWord) : Nat := (t.extractLsb' 32 7).toNat

/-- `DATA`, bits 31:0 (R81). -/
def busData (t : BusWord) : Word := t.extractLsb' 0 32

/-- A `BUS` word from its three fields (R81). -/
def busWord (write : Bool) (off : Nat) (data : Word) : BusWord :=
  BitVec.ofBool write ++ BitVec.ofNat 7 off ++ data

/-- `OP`, bits 63:32 (R82). -/
def ctrlOp (k : CtrlWord) : Word := k.extractLsb' 32 32

/-- `ARG`, bits 31:0 (R82). -/
def ctrlArg (k : CtrlWord) : Word := k.extractLsb' 0 32

/-- A `CTRL` word from its two fields (R82). -/
def ctrlWord (op arg : Word) : CtrlWord := op ++ arg

/-- `decode(W, OFF, dle)` of R86: the first matching line wins. -/
def selectReg (c : Config) (dle write : Bool) (off : Nat) : Option Reg :=
  if dle && off == c.offDll then some .dll
  else if dle && off == c.offDlh then some .dlh
  else if !write && off == c.offRxd then some .rxd
  else if write && off == c.offTxd then some .txd
  else if off == c.offIer then some .ier
  else if off == c.offFcr then some .fcr
  else if off == c.offLcr then some .lcr
  else if off == c.offLsr then some .lsr
  else if off == c.offMode then some .mode
  else none

/-- `RD.<reg>` or `WR.<reg>` (R86).  R86 selects `RXD` for a read and `TXD` for a write only. -/
def accessInstr : Reg → Bool → Word → Option Instr
  | .rxd, false, _ => some .rdRxd
  | .rxd, true, _ => none
  | .txd, false, _ => none
  | .txd, true, v => some (.wrTxd v)
  | .dll, false, _ => some .rdDll
  | .dll, true, v => some (.wrDll v)
  | .dlh, false, _ => some .rdDlh
  | .dlh, true, v => some (.wrDlh v)
  | .ier, false, _ => some .rdIer
  | .ier, true, v => some (.wrIer v)
  | .fcr, false, _ => some .rdFcr
  | .fcr, true, v => some (.wrFcr v)
  | .lcr, false, _ => some .rdLcr
  | .lcr, true, v => some (.wrLcr v)
  | .lsr, false, _ => some .rdLsr
  | .lsr, true, v => some (.wrLsr v)
  | .mode, false, _ => some .rdMode
  | .mode, true, v => some (.wrMode v)

/-- A `BUS` word to an instruction; `DATA` of a read word is ignored (R81). -/
def decodeBus (c : Config) (dle : Bool) (t : BusWord) : Except DecodeError Instr :=
  match (selectReg c dle (busWrite t) (busOffset t)).bind (fun r => accessInstr r (busWrite t) (busData t)) with
  | some i => .ok i
  | none => .error .reservedOffset

/-- A `CTRL` word to an instruction (R82, R87). -/
def decodeCtrl (k : CtrlWord) : Except DecodeError Instr :=
  if ctrlOp k = 0#32 then .ok (.ctrlReset (ctrlArg k))
  else if ctrlOp k = 1#32 then .ok (.ctrlGet (ctrlArg k))
  else .error .invalidOperation

/-- A word of either format to an instruction. -/
def decode (c : Config) (dle : Bool) : OpWord → Except DecodeError Instr
  | .bus t => decodeBus c dle t
  | .ctrl k => decodeCtrl k

/-- The canonical word of an instruction: `DATA` is zero in a read word (R81, R82). -/
def encode (c : Config) : Instr → OpWord
  | .rdRxd => .bus (busWord false c.offRxd 0#32)
  | .wrTxd v => .bus (busWord true c.offTxd v)
  | .rdDll => .bus (busWord false c.offDll 0#32)
  | .wrDll v => .bus (busWord true c.offDll v)
  | .rdIer => .bus (busWord false c.offIer 0#32)
  | .wrIer v => .bus (busWord true c.offIer v)
  | .rdDlh => .bus (busWord false c.offDlh 0#32)
  | .wrDlh v => .bus (busWord true c.offDlh v)
  | .rdFcr => .bus (busWord false c.offFcr 0#32)
  | .wrFcr v => .bus (busWord true c.offFcr v)
  | .rdLcr => .bus (busWord false c.offLcr 0#32)
  | .wrLcr v => .bus (busWord true c.offLcr v)
  | .rdLsr => .bus (busWord false c.offLsr 0#32)
  | .wrLsr v => .bus (busWord true c.offLsr v)
  | .rdMode => .bus (busWord false c.offMode 0#32)
  | .wrMode v => .bus (busWord true c.offMode v)
  | .ctrlReset arg => .ctrl (ctrlWord 0#32 arg)
  | .ctrlGet arg => .ctrl (ctrlWord 1#32 arg)

/-- The word that the host's number `w` of `nbits` bits stands for: a number of at most 40 bits is a `BUS` word, a longer one
of at most 64 bits a `CTRL` word; every bit above `nbits` is 0. -/
def tableWord (nbits w : Nat) : Option OpWord :=
  if nbits ≤ 40 then some (.bus (BitVec.ofNat 40 (w % 2 ^ nbits)))
  else if nbits ≤ 64 then some (.ctrl (BitVec.ofNat 64 (w % 2 ^ nbits)))
  else none

/-- The instruction the decoder reads from a table word at the parameters of R5 with the divisor latches closed
(`DLE = 0`); four rows of the table (`RD.DLL`, `WR.DLL`, `RD.DLH`, `WR.DLH`) share their words with others and are
reached only with `DLE = 1` (R87; log 10). -/
def decodeTableWord (nbits w : Nat) : Option Instr :=
  match tableWord nbits w with
  | none => none
  | some x =>
    match decode Config.hw false x with
    | .ok i => some i
    | .error _ => none

end Sys2Proof
end

