-- ==== Sys2Proof/Machine/State.lean ====
section
/-! DEFINITION. The state of one device instance (spec/10_state.md R20) and of the agents that act on it
(spec/00_scope.md R7), as plain data, and the state after reset (R47, R240). -/

namespace Sys2Proof.Machine

/-- The lifecycle of an instance (R25): ten names for nine states, `Uninitialized` being both ends. -/
inductive Lifecycle where
  | uninitialized | registersMapped | hardwareConfigured | interruptsEnabled | registered | running
  | interruptsDisabled | unregistered | registersUnmapped
  deriving DecidableEq, Repr

/-- The named outcomes an operation can end with (R200); no numbers, no values. -/
inductive Exc where
  | resourceExhausted | invalidOperation | interrupted | hardwareUnavailable | ioFault
  deriving DecidableEq, Repr

/-- What a failed bring-up step reports (R189). -/
inductive BringUpError where
  | hardwareUnavailable | resourceExhausted
  deriving DecidableEq, Repr

/-- The model faults of R206.  Each is RECORDED in `State.faults` by a step that answers a next state, as the spec's runs
past a fault do (spec/95_test_vectors.md P5); no step answers `Host.Outcome.fault` (log 9).  SAFE: a claim takes "no fault
recorded" as a premise (R45). -/
inductive Fault where
  /-- Recorded by `WR.TXD` while `tx_hold` is occupied (R103). Safe. -/
  | txOverrun
  /-- Recorded by `ARRIVE` while `rx_fifo` is full (R151). Safe. -/
  | rxHwOverrun
  /-- Recorded by `WR.LCR`, `WR.DLL`, `WR.DLH` while not extended (R105, R107, R109). Safe. -/
  | configOutsideExtended
  /-- Recorded by any transaction while not mapped (R100, R75). Safe. -/
  | unmappedAccess
  deriving DecidableEq, Repr

/-- The refusals of R206: the model gives the operation no meaning and the run stops. -/
inductive Refusal where
  /-- An instruction with no meaning yet; raised by no arm of `exec`. Safe. -/
  | notModelled (mnemonic : String)
  /-- A transaction that decodes to `NONE` (R117). Safe. -/
  | reservedOffset
  /-- `WR.LSR` (R102). Safe. -/
  | reservedWrite
  /-- `WR.LCR`, `WR.FCR`, `WR.IER`, `WR.MODE` with a value outside the defined set (R105, R111, R113, R115). Safe. -/
  | reservedValue
  /-- An `INIT` or `TEARDOWN` step in the wrong lifecycle state, or `T1` while an operation is in progress (R180, R190). Safe. -/
  | badLifecycle
  /-- A configuration that breaks R6; raised by `step` before anything else. Safe. -/
  | badConfig
  deriving DecidableEq, Repr

/-- What a step answers. -/
abbrev Answer (σ : Type) := Host.Outcome σ Fault Refusal

/-- The set of recorded faults (R45), one membership bit for each name, so that equal sets are equal data. -/
structure FaultSet where
  txOverrun             : Bool
  rxHwOverrun           : Bool
  configOutsideExtended : Bool
  unmappedAccess        : Bool
  deriving DecidableEq, Repr

/-- What a transaction, a control operation or a whole operation returned (R81, R137, R157, R159, R200). -/
inductive Result where
  /-- Success with no value. -/
  | noValue
  /-- The 32-bit result of a register read. -/
  | word (r : Word)
  /-- The count returned by `CTRL.GET` or `WRITE_STR`. -/
  | count (n : Nat)
  /-- The byte returned by `POP`. -/
  | byte (b : Byte)
  /-- The byte sequence returned by `READ`. -/
  | bytes (bs : List Byte)
  /-- The outcome the operation ended with. -/
  | raised (e : Exc)
  deriving DecidableEq, Repr

/-- The agents of R7; those that can hold a lock are named in `registerLock`, `bufferLock` (R43). -/
inductive Agent where
  | process (k : Nat) | handler | transmitter | receiver | canceller
  deriving DecidableEq, Repr

/-- The labels of `WRITE_CHAR` (R130). -/
inductive TxLabel where
  | poll | send | count
  deriving DecidableEq, Repr

/-- A `WRITE_CHAR`, alone or inside a `WRITE_STR`, with what is left of the sequence (R130, R132). -/
structure TxJob where
  /-- The next step of the `WRITE_CHAR` in progress. -/
  label  : TxLabel
  /-- The byte that `WRITE_CHAR` sends. -/
  cur    : Byte
  /-- A `WRITE_CHAR 0x0D` still follows this byte. -/
  crNext : Bool
  /-- The input bytes after this one. -/
  rest   : List Byte
  /-- The input bytes consumed before this one, the `n` of R132. -/
  n      : Nat
  /-- Whether this is a `WRITE_STR`, which returns `n`. -/
  str    : Bool
  deriving DecidableEq, Repr

/-- The labels of `INIT` (R182). -/
inductive InitLabel where
  | i1 | i2 | i3 | i4 | i5 | i6 | i7 | i8 | i9
  deriving DecidableEq, Repr

/-- The labels of `TEARDOWN` (R190). -/
inductive TeardownLabel where
  | t1 | t2 | t3 | t4
  deriving DecidableEq, Repr

/-- The position `seq` of a process context in its running operation, with that operation's operands (R26). -/
inductive OpSeq where
  /-- A raw transaction line `RD`/`WR` (R90). -/
  | bus (t : BusWord)
  /-- A `CTRL` line (R90). -/
  | ctrl (k : CtrlWord)
  /-- In `WRITE_CHAR` or `WRITE_STR`. -/
  | tx (j : TxJob)
  /-- At `WAIT` of `POP` (`asRead = false`) or `READ` (R156). -/
  | popWait (asRead : Bool)
  /-- At `DEQ` of `POP` or `READ` (R157). -/
  | popDeq (asRead : Bool)
  /-- In `INIT`. -/
  | init (l : InitLabel)
  /-- In `TEARDOWN`, or in the part of it that undoes a failed bring-up (R189). -/
  | teardown (l : TeardownLabel) (failed : Option BringUpError)
  deriving DecidableEq, Repr

/-- A process context: its running operation, if any, and the outcome of the operation that ended last (R221). -/
structure Proc where
  seq  : Option OpSeq
  last : Option Result
  deriving DecidableEq, Repr

/-- The position of `IRQ_HANDLER`; the byte read at `RECV` is kept until `ENQ` (R153). -/
inductive HandlerSeq where
  | recv | enq (b : Byte) | notify | ret
  deriving DecidableEq, Repr

/-- The operations a session or the bring-up software starts on a context (R7, R91). -/
inductive Request where
  | bus (t : BusWord)
  | ctrl (k : CtrlWord)
  | writeChar (b : Byte)
  | writeStr (bs : List Byte)
  | pop
  | read (n : Nat)
  | init
  | teardown
  /-- The unwinding after a failed registration (R189). -/
  | unwind (e : BringUpError)
  deriving DecidableEq, Repr

/-- What the platform does, outside the block (R180, R189, R205, R240). -/
inductive PlatformStep where
  /-- Hardware reset: the UART comes out of power-up. -/
  | powerUp
  /-- Instance creation. -/
  | create
  /-- The register window is mapped. -/
  | map
  /-- The register window cannot be mapped. -/
  | mapFailed (e : BringUpError)
  /-- The device node is registered. -/
  | register
  /-- Bring-up is complete. -/
  | run
  deriving DecidableEq, Repr

/-- One choice of who is offered the next step (R212), or one act of the outside world. -/
inductive Event where
  /-- A new process context comes into being. -/
  | spawn
  /-- An operation is started on context `k`. -/
  | start (k : Nat) (r : Request)
  /-- Context `k` takes the step its `seq` names. -/
  | proc (k : Nat)
  /-- The cancellation signal reaches context `k` (R160). -/
  | cancel (k : Nat)
  /-- The interrupt entry (R210). -/
  | entry
  /-- The handler takes the step its `seq` names (R153). -/
  | handler
  /-- The transmitter (R136). -/
  | drain
  /-- The receiver (R150 to R152). -/
  | arrive
  /-- The platform. -/
  | platform (p : PlatformStep)
  deriving DecidableEq, Repr

/-- One device instance (R20) with its parameters (R5), its agents' positions (R26) and the model's own inputs. -/
structure State where
  /-- The parameters; no step changes them. -/
  cfg             : Config
  /-- `tx_hold`, R21. -/
  txHold          : Option Byte
  /-- `rx_fifo`, oldest first, R22. -/
  rxFifo          : List Byte
  /-- Line Control, R32. -/
  lcr             : Byte
  /-- Divisor Latch Low, R33. -/
  dll             : Byte
  /-- Divisor Latch High, R33. -/
  dlh             : Byte
  /-- Interrupt Enable, R35. -/
  ier             : Byte
  /-- Mode, R36. -/
  mode            : Byte
  /-- `tx_line`, R24. -/
  txLine          : List Byte
  /-- `rx_line`, R24. -/
  rxLine          : List Byte
  /-- `tx_counter`, below `2 ^ CNT_BITS`, R23. -/
  txCounter       : Nat
  /-- `storage`, C bytes, R38. -/
  storage         : List Byte
  /-- `read_cursor`, R39. -/
  readCursor      : Nat
  /-- `write_cursor`, R39. -/
  writeCursor     : Nat
  /-- `register_lock`, R43: none is free. -/
  registerLock    : Option Agent
  /-- `buffer_lock`, R43: none is free. -/
  bufferLock      : Option Agent
  /-- R25. -/
  lifecycle       : Lifecycle
  /-- R44. -/
  handlerAttached : Bool
  /-- R44. -/
  inHandler       : Bool
  /-- `irq_id`, unset until `INIT`, R44. -/
  irqId           : Option Nat
  /-- R45. -/
  faults          : FaultSet
  /-- `seq` of every process context, R26. -/
  procs           : List Proc
  /-- `seq` of the interrupt context, R26. -/
  handler         : Option HandlerSeq
  /-- The model's own: what the transaction or control operation just made returned (log 8). -/
  result          : Result
  /-- The model's own: where the next free value is taken (log 7). -/
  draws           : Nat
  /-- The model's own: who is offered the next steps, in order (log 6). -/
  schedule        : List Event
  deriving DecidableEq, Repr

/-- What R47 leaves unspecified or free after reset. -/
structure ResetDraws where
  txHold   : Option Byte
  rxFifo   : List Byte
  lcr      : Byte
  dll      : Byte
  dlh      : Byte
  ier      : Byte
  mode     : Byte
  storage  : List Byte
  rxLine   : List Byte
  schedule : List Event
  draws    : Nat
  deriving DecidableEq, Repr

/-- The state after reset for given parameters and given values of everything R47 leaves open (R47, R240). -/
def State.resetWith (c : Config) (d : ResetDraws) : State where
  cfg             := c
  txHold          := d.txHold
  rxFifo          := d.rxFifo
  lcr             := d.lcr
  dll             := d.dll
  dlh             := d.dlh
  ier             := d.ier
  mode            := d.mode
  txLine          := []
  rxLine          := d.rxLine
  txCounter       := 0
  storage         := d.storage
  readCursor      := 0
  writeCursor     := 0
  registerLock    := none
  bufferLock      := none
  lifecycle       := .uninitialized
  handlerAttached := false
  inHandler       := false
  irqId           := none
  faults          := ⟨false, false, false, false⟩
  procs           := []
  handler         := none
  result          := .noValue
  draws           := d.draws
  schedule        := d.schedule

/-- The values the model names for them: the OMAP/16550 family's for the UART (PRESUMED, log 2), zero bytes for the
storage (DESIGN CHOICE, log 3), empty inputs (DESIGN CHOICE, log 6, log 7, log 19). -/
def ResetDraws.named (c : Config) : ResetDraws where
  txHold   := none
  rxFifo   := []
  lcr      := 0x00#8
  dll      := 0x00#8
  dlh      := 0x00#8
  ier      := 0x00#8
  mode     := 0x07#8
  storage  := List.replicate c.capacity 0x00#8
  rxLine   := []
  schedule := []
  draws    := 0

/-- The machine right after reset, at the parameters of R5. -/
def State.reset : State := State.resetWith Config.hw (ResetDraws.named Config.hw)

end Sys2Proof.Machine
end

