-- ==== Sys2Proof/Machine/Flags.lean ====
section
/-! DEFINITION. The flags and predicates that the spec derives from the state and does not store
(spec/10_state.md R25, R27 to R30, R36, R40; spec/30_encoding.md R86). -/

namespace Sys2Proof.Machine

/-- `tx_ready` (R27). -/
def State.txReady (s : State) : Bool := s.txHold.isNone

/-- `rx_ready` (R28). -/
def State.rxReady (s : State) : Bool := !s.rxFifo.isEmpty

/-- `irq`, a level (R29). -/
def State.irq (s : State) : Bool := s.rxReady && s.ier &&& s.cfg.ierRdi != 0x00#8

/-- `not_empty`, a level (R30). -/
def State.notEmpty (s : State) : Bool := s.readCursor != s.writeCursor

/-- `avail`, the count of readable bytes (R40). -/
def State.avail (s : State) : Nat := (s.writeCursor + s.cfg.capacity - s.readCursor) % s.cfg.capacity

/-- `DLE` (R86). -/
def State.dle (s : State) : Bool := s.lcr &&& s.cfg.lcrDle != 0x00#8

/-- `normal` (R36). -/
def State.normal (s : State) : Bool := s.mode == s.cfg.modeNormal

/-- `extended` (R36). -/
def State.extended (s : State) : Bool := s.mode == s.cfg.modeExt

/-- `mapped` (R25). -/
def Lifecycle.mapped : Lifecycle → Bool
  | .uninitialized | .registersUnmapped => false
  | .registersMapped | .hardwareConfigured | .interruptsEnabled | .registered | .running
  | .interruptsDisabled | .unregistered => true

/-- `mapped` of the instance (R25). -/
def State.mapped (s : State) : Bool := s.lifecycle.mapped

/-- The divisor the latches hold, `dlh * 256 + dll` (R33). -/
def State.divisor (s : State) : Nat := s.dlh.toNat * 256 + s.dll.toNat

/-- `seq` of context `k`: the next step of its running operation, if it has one (R26). -/
def State.seqOf (s : State) (k : Nat) : Option OpSeq := s.procs[k]?.bind Proc.seq

/-- An operation is in progress on some context but `k` (R190). -/
def State.othersBusy (s : State) (k : Nat) : Bool :=
  s.procs.zipIdx.any (fun p => p.1.seq.isSome && p.2 != k)

/-- The position is inside `INIT`, past its first step (R182, R191). -/
def OpSeq.configuring : OpSeq → Bool
  | .init l => l != .i1
  | .bus _ | .ctrl _ | .tx _ | .popWait _ | .popDeq _ | .teardown _ _ => false

/-- The context runs an `INIT` that has made its first step (R191). -/
def Proc.configuring (p : Proc) : Bool := p.seq.any OpSeq.configuring

/-- An `INIT` has made its first step and not ended (R191: "`INIT` runs once per life of an instance"; log 32). -/
def State.initUnderWay (s : State) : Bool := s.procs.any Proc.configuring

/-- No operation is in progress. -/
def State.quiescent (s : State) : Bool := s.procs.all (fun p => p.seq.isNone)

/-- A process context may step: the handler is not running, or another core runs the context (R212, R220). -/
def State.processMayStep (s : State) : Bool := !s.inHandler || decide (1 < s.cfg.nCores)

/-- `DRAIN` is enabled (R136). -/
def State.drainEnabled (s : State) : Bool := s.normal && s.txHold.isSome

/-- The interrupt entry is enabled (R210). -/
def State.entryEnabled (s : State) : Bool := s.irq && s.handlerAttached && !s.inHandler

/-- The name is in the set. -/
def FaultSet.has (fs : FaultSet) : Fault → Bool
  | .txOverrun => fs.txOverrun
  | .rxHwOverrun => fs.rxHwOverrun
  | .configOutsideExtended => fs.configOutsideExtended
  | .unmappedAccess => fs.unmappedAccess

/-- The set with the name added (R45, R206). -/
def FaultSet.add (fs : FaultSet) : Fault → FaultSet
  | .txOverrun => { fs with txOverrun := true }
  | .rxHwOverrun => { fs with rxHwOverrun := true }
  | .configOutsideExtended => { fs with configOutsideExtended := true }
  | .unmappedAccess => { fs with unmappedAccess := true }

/-- No fault. -/
def FaultSet.empty : FaultSet := ⟨false, false, false, false⟩

end Sys2Proof.Machine
end

