-- ==== Sys2Proof/Machine/Operands.lean ====
section
/-! DEFINITION. Operand forms: bytes and words (spec/30_encoding.md R84, R85; spec/20_memory.md R61). -/

namespace Sys2Proof.Machine

/-- `v[7:0]`, the only bits of a written or a read word that carry meaning (R61, R84). -/
def lowByte (v : Word) : Byte := v.extractLsb' 0 8

/-- `zext_32(b)` (R84). -/
def zext32 (b : Byte) : Word := b.setWidth 32

/-- `(draw 24) ++ low`, the result of a read (R100). -/
def readResult (upper : BitVec 24) (low : Byte) : Word := upper ++ low

/-- `d[7:0]` of the divisor (R85). -/
def divisorLow (d : Nat) : Byte := BitVec.ofNat 8 (d % 256)

/-- `d[15:8]` of the divisor (R85). -/
def divisorHigh (d : Nat) : Byte := BitVec.ofNat 8 (d / 256 % 256)

/-- `v & mask` of a 32-bit value with an 8-bit mask is nonzero: the status test of R84. -/
def anyBit (v : Word) (mask : Byte) : Bool := v &&& zext32 mask != 0#32

/-- The Line Status value for given free bits (R101): `TXRDY` follows the holding, every other bit is free. -/
def lineStatus (txrdy free : Byte) (ready : Bool) : Byte :=
  (free &&& ~~~txrdy) ||| (if ready then txrdy else 0x00#8)

/-- A byte with no bit outside the mask. -/
def within (b mask : Byte) : Bool := b &&& ~~~mask == 0x00#8

/-- The values `WR.LCR` accepts (R105): no bit outside the word length and the latch enable, and the 8-bit format while
the latches are closed. -/
def lcrAccepted (c : Config) (b : Byte) : Bool :=
  within b (c.lcrWlenMask ||| c.lcrDle) && !(b &&& c.lcrDle == 0x00#8 && b &&& c.lcrWlenMask != c.lcrWlen8)

/-- The values `WR.FCR` accepts (R111). -/
def fcrAccepted (c : Config) (b : Byte) : Bool := within b (c.fcrClrRx ||| c.fcrClrTx)

/-- The values `WR.IER` accepts (R113). -/
def ierAccepted (c : Config) (b : Byte) : Bool := within b c.ierRdi

/-- The values `WR.MODE` accepts (R115). -/
def modeAccepted (c : Config) (b : Byte) : Bool := b == c.modeExt || b == c.modeNormal

end Sys2Proof.Machine
end

