-- ==== Sys2Proof/Machine/Ops.lean ====
section
/-! DEFINITION. The shared operations over the state: results and faults of transactions, the locks, the receive buffer,
the positions of the agents, and the receive interrupt's entry and return (spec/60_exceptions.md R210, R213). -/

namespace Sys2Proof.Machine

/-- Go on from a next state; a fault or a refusal ends the step. -/
def andThen (o : Answer State) (f : State → Answer State) : Answer State :=
  match o with
  | .next s => f s
  | .fault r => .fault r
  | .refused r => .refused r

/-- `fault <Name>` (R10, R206). -/
def State.addFault (s : State) (f : Fault) : State := { s with faults := s.faults.add f }

/-- The state with the result of the transaction or operation just made. -/
def State.returns (s : State) (r : Result) : State := { s with result := r }

/-- `n` free values have been taken. -/
def State.drawn (s : State) (n : Nat) : State := { s with draws := s.draws + n }

/-- `r <- (draw 24) ++ low` (R100): a read returns `low` in bits 7:0 and free bits above. -/
def State.returnsRead (s : State) (low : Byte) : State :=
  (s.returns (.word (readResult (Config.freeUpper s.draws) low))).drawn 1

/-- The mark of a configuration write made outside extended mode (R186). -/
def State.markConfigWrite (s : State) : State :=
  if s.extended then s else s.addFault .configOutsideExtended

/-- The access while not `mapped`: `fault UnmappedAccess; raise IOFault` (R75, R100). -/
def State.unmappedAccess (s : State) : State :=
  (s.addFault .unmappedAccess).returns (.raised .ioFault)

/-- The operation of context `k` goes on at `q`. -/
def State.setSeq (s : State) (k : Nat) (q : OpSeq) : State :=
  { s with procs := s.procs.modify k (fun p => { p with seq := some q }) }

/-- The operation of context `k` ends; its outcome is returned to the caller (R26, R221). -/
def State.endOp (s : State) (k : Nat) (r : Result) : State :=
  { s with procs := s.procs.modify k (fun _ => { seq := none, last := some r }) }

/-- `register_lock` is taken or released. -/
def State.setRegisterLock (s : State) (a : Option Agent) : State := { s with registerLock := a }

/-- `buffer_lock` is taken or released. -/
def State.setBufferLock (s : State) (a : Option Agent) : State := { s with bufferLock := a }

/-- The critical section of `register_lock`, one atomic step (R66): an agent that finds the lock held has no step (R68). -/
def withRegisterLock (a : Agent) (s : State) (body : State → Answer State) (after : State → Answer State) :
    Answer State :=
  match s.registerLock with
  | some _ => .next s
  | none => andThen (body (s.setRegisterLock (some a))) (fun t => after (t.setRegisterLock none))

/-- The critical section of `buffer_lock`, one atomic step (R69). -/
def withBufferLock (a : Agent) (s : State) (body : State → State) (after : State → State) : State :=
  match s.bufferLock with
  | some _ => s
  | none => after ((body (s.setBufferLock (some a))).setBufferLock none)

/-- `(cursor + 1) mod C` (R39). -/
def State.advance (s : State) (cursor : Nat) : Nat := (cursor + 1) % s.cfg.capacity

/-- The store and the advance of `ENQ` (R153, R154): no comparison of the cursors. -/
def State.enqueue (s : State) (b : Byte) : State :=
  { s with storage := s.storage.set s.writeCursor b, writeCursor := s.advance s.writeCursor }

/-- `storage[read_cursor]` (R157); the free byte stands for a slot outside the storage, which no reachable state reads (log 21). -/
def State.frontByte (s : State) : Byte := (s.storage[s.readCursor]?).getD (Config.freeByte s.draws)

/-- The advance of `DEQ` (R157); the byte stays in the storage. -/
def State.dequeue (s : State) : State := { s with readCursor := s.advance s.readCursor }

/-- `tx_counter <- (tx_counter + 1) mod 2^CNT_BITS` (R130). -/
def State.countByte (s : State) : State := { s with txCounter := (s.txCounter + 1) % 2 ^ s.cfg.cntBits }

/-- Taking the receive interrupt (R210): saves nothing, changes no register. -/
def State.interruptEntry (s : State) : State := { s with inHandler := true, handler := some .recv }

/-- The return from it (R213): restores nothing. -/
def State.interruptReturn (s : State) : State := { s with inHandler := false, handler := none }

/-- The handler goes on at `q`. -/
def State.setHandler (s : State) (q : HandlerSeq) : State := { s with handler := some q }

/-- The UART's registers and holdings are unspecified: free values (R47, R190 after `T3`, R240; log 14).  They are taken at the
instance's own counter, from constants that every instance shares: two instances at equal counters draw equal values, which
no rule says (DESIGN CHOICE, unsafe for a claim about two instances; log 7, log 27). -/
def State.scrambleUart (s : State) : State :=
  { s with
    lcr := Config.freeByte s.draws
    dll := Config.freeByte (s.draws + 1)
    dlh := Config.freeByte (s.draws + 2)
    ier := Config.freeByte (s.draws + 3)
    mode := Config.freeByte (s.draws + 4)
    txHold := Config.freeHold (s.draws + 5)
    rxFifo := (Config.freeBytes (s.draws + 6)).take s.cfg.rxDepth
    draws := s.draws + 7 }

/-- Instance creation (R47, R240): the block's own state as new, no fault recorded, the storage unspecified (log 15). -/
def State.createInstance (s : State) : State :=
  { s with
    txCounter := 0
    readCursor := 0
    writeCursor := 0
    storage := (List.range s.cfg.capacity).map (fun i => Config.freeByte (s.draws + i))
    registerLock := none
    bufferLock := none
    handlerAttached := false
    inHandler := false
    handler := none
    irqId := none
    faults := FaultSet.empty
    draws := s.draws + s.cfg.capacity }

end Sys2Proof.Machine
end

