-- ==== Sys2Proof/Machine/ConfigRegs.lean ====
section
/-! DEFINITION. Meanings of the Line Control, Divisor Latch, FIFO Control, Interrupt Enable and Mode transactions
(spec/40_register_access.md R105 to R116).  The test of `mapped` and the decoding (R100) are in Machine/Bus.lean. -/

namespace Sys2Proof.Machine

/-- `WR.LCR v` (R105): the refusals come before the fault. -/
def execWrLcr (v : Word) (s : State) : Answer State :=
  if lcrAccepted s.cfg (lowByte v) then .next { s.markConfigWrite.returns .noValue with lcr := lowByte v }
  else .refused .reservedValue

/-- `RD.LCR` (R106). -/
def execRdLcr (s : State) : Answer State := .next (s.returnsRead s.lcr)

/-- `WR.DLL v` (R107). -/
def execWrDll (v : Word) (s : State) : Answer State :=
  .next { s.markConfigWrite.returns .noValue with dll := lowByte v }

/-- `RD.DLL` (R108). -/
def execRdDll (s : State) : Answer State := .next (s.returnsRead s.dll)

/-- `WR.DLH v` (R109). -/
def execWrDlh (v : Word) (s : State) : Answer State :=
  .next { s.markConfigWrite.returns .noValue with dlh := lowByte v }

/-- `RD.DLH` (R110). -/
def execRdDlh (s : State) : Answer State := .next (s.returnsRead s.dlh)

/-- `WR.FCR v` (R111): acts once, stores nothing. -/
def execWrFcr (v : Word) (s : State) : Answer State :=
  if fcrAccepted s.cfg (lowByte v) then
    .next { s.returns .noValue with
      rxFifo := if lowByte v &&& s.cfg.fcrClrRx != 0x00#8 then [] else s.rxFifo
      txHold := if lowByte v &&& s.cfg.fcrClrTx != 0x00#8 then none else s.txHold }
  else .refused .reservedValue

/-- `RD.FCR` (R112): the whole result is free. -/
def execRdFcr (s : State) : Answer State := .next ((s.returns (.word (Config.freeWord s.draws))).drawn 1)

/-- `WR.IER v` (R113). -/
def execWrIer (v : Word) (s : State) : Answer State :=
  if ierAccepted s.cfg (lowByte v) then .next { s.returns .noValue with ier := lowByte v }
  else .refused .reservedValue

/-- `RD.IER` (R114). -/
def execRdIer (s : State) : Answer State := .next (s.returnsRead s.ier)

/-- `WR.MODE v` (R115). -/
def execWrMode (v : Word) (s : State) : Answer State :=
  if modeAccepted s.cfg (lowByte v) then .next { s.returns .noValue with mode := lowByte v }
  else .refused .reservedValue

/-- `RD.MODE` (R116). -/
def execRdMode (s : State) : Answer State := .next (s.returnsRead s.mode)

end Sys2Proof.Machine
end

