-- ==== Sys2Proof/Machine/Control.lean ====
section
/-! DEFINITION. Meanings of the control operations on the counter (spec/41_transmit.md R135, R137); no register is accessed. -/

namespace Sys2Proof.Machine

/-- `CTRL.RESET` (R135): `ARG` is ignored. -/
def execCtrlReset (_arg : Word) (s : State) : Answer State :=
  .next { s.returns .noValue with txCounter := 0 }

/-- `CTRL.GET` (R137): `ARG` is ignored; nothing changes but the returned value. -/
def execCtrlGet (_arg : Word) (s : State) : Answer State := .next (s.returns (.count s.txCounter))

end Sys2Proof.Machine
end

