-- ==== Sys2Proof/Machine/DataRegs.lean ====
section
/-! DEFINITION. Meanings of the Line Status, Transmit Data and Receive Data transactions (spec/40_register_access.md R101 to R104).
What is common to every transaction and comes before these, the test of `mapped` and the decoding (R100), is in Machine/Bus.lean. -/

namespace Sys2Proof.Machine

/-- `RD.LSR` (R101). -/
def execRdLsr (s : State) : Answer State :=
  .next ((s.drawn 1).returnsRead (lineStatus s.cfg.lsrTxrdy (Config.freeByte s.draws) s.txReady))

/-- `WR.LSR` (R102): no meaning. -/
def execWrLsr (_v : Word) (_s : State) : Answer State := .refused .reservedWrite

/-- `WR.TXD v` (R103): fills the empty holding; on an occupied one the byte is dropped and the fault recorded. -/
def execWrTxd (v : Word) (s : State) : Answer State :=
  match s.txHold with
  | some _ => .next ((s.addFault .txOverrun).returns .noValue)
  | none => .next { s.returns .noValue with txHold := some (lowByte v) }

/-- `RD.RXD` (R104): removes the oldest held byte; with nothing held the byte is free and nothing is removed. -/
def execRdRxd (s : State) : Answer State :=
  match s.rxFifo with
  | [] => .next ((s.drawn 1).returnsRead (Config.freeByte s.draws))
  | b :: rest => .next { s.returnsRead b with rxFifo := rest }

end Sys2Proof.Machine
end

