-- ==== Sys2Proof/Machine/Dispatch.lean ====
section
/-! DEFINITION. The meaning of every instruction, one arm per constructor. -/

namespace Sys2Proof.Machine

/-- One register transaction (the register's own rule) or one control operation. -/
def exec (i : Instr) (s : State) : Host.Outcome State Fault Refusal :=
  match i with
  | .rdRxd => Sys2Proof.Machine.execRdRxd s
  | .wrTxd v => Sys2Proof.Machine.execWrTxd v s
  | .rdDll => Sys2Proof.Machine.execRdDll s
  | .wrDll v => Sys2Proof.Machine.execWrDll v s
  | .rdIer => Sys2Proof.Machine.execRdIer s
  | .wrIer v => Sys2Proof.Machine.execWrIer v s
  | .rdDlh => Sys2Proof.Machine.execRdDlh s
  | .wrDlh v => Sys2Proof.Machine.execWrDlh v s
  | .rdFcr => Sys2Proof.Machine.execRdFcr s
  | .wrFcr v => Sys2Proof.Machine.execWrFcr v s
  | .rdLcr => Sys2Proof.Machine.execRdLcr s
  | .wrLcr v => Sys2Proof.Machine.execWrLcr v s
  | .rdLsr => Sys2Proof.Machine.execRdLsr s
  | .wrLsr v => Sys2Proof.Machine.execWrLsr v s
  | .rdMode => Sys2Proof.Machine.execRdMode s
  | .wrMode v => Sys2Proof.Machine.execWrMode v s
  | .ctrlReset arg => Sys2Proof.Machine.execCtrlReset arg s
  | .ctrlGet arg => Sys2Proof.Machine.execCtrlGet arg s

end Sys2Proof.Machine
end

