-- ==== Sys2Proof/Machine/Bus.lean ====
section
/-! DEFINITION. Reaching the registers: what is common to every transaction (spec/40_register_access.md R100), the raw accesses
`RegRead`, `RegWrite` (spec/20_memory.md R60), the lock-protected `reg_read`, `reg_write` (R66), and control words
(spec/41_transmit.md R135, R137, R138). -/

namespace Sys2Proof.Machine

/-- One transaction (R100), in the order of R206: first the mapping, then the decoding with the `DLE` of the state before
the step, then the register's own rule. -/
def transact (t : BusWord) (s : State) : Answer State :=
  if s.mapped then
    match decodeBus s.cfg s.dle t with
    | .ok i => exec i s
    | .error _ => .refused .reservedOffset
  else .next s.unmappedAccess

/-- `RegRead(off)` (R60): the bare access. -/
def regRead (off : Nat) (s : State) : Answer State := transact (busWord false off 0#32) s

/-- `RegWrite(v, off)` (R60): the bare access. -/
def regWrite (v : Word) (off : Nat) (s : State) : Answer State := transact (busWord true off v) s

/-- The issuing operation goes on with what the access returned; an outcome raised by it ends the operation (R203, R221). -/
def orRaised (k : Nat) (after : Result → State → Answer State) (t : State) : Answer State :=
  match t.result with
  | .raised e => .next (t.endOp k (.raised e))
  | r => after r t

/-- `reg_read(off)` of context `k` (R66). -/
def lockedRead (k : Nat) (off : Nat) (s : State) (after : Result → State → Answer State) : Answer State :=
  withRegisterLock (.process k) s (regRead off) (orRaised k after)

/-- `reg_write(v, off)` of context `k` (R66). -/
def lockedWrite (k : Nat) (v : Word) (off : Nat) (s : State) (after : State → Answer State) : Answer State :=
  withRegisterLock (.process k) s (regWrite v off) (orRaised k (fun _ t => after t))

/-- A raw `RD` or `WR` line of context `k` (R90): the operation ends with the transaction's result. -/
def busStep (k : Nat) (t : BusWord) (s : State) : Answer State :=
  withRegisterLock (.process k) s (transact t) (fun u => .next (u.endOp k u.result))

/-- A control word: the operation it names, or `raise InvalidOperation` with no state change (R138, R201). -/
def transactCtrl (w : CtrlWord) (s : State) : Answer State :=
  match decodeCtrl w with
  | .ok i => exec i s
  | .error _ => .next (s.returns (.raised .invalidOperation))

/-- A `CTRL` line of context `k` (R90). -/
def ctrlStep (k : Nat) (w : CtrlWord) (s : State) : Answer State :=
  andThen (transactCtrl w s) (fun u => .next (u.endOp k u.result))

end Sys2Proof.Machine
end

