-- ==== Sys2Proof/Machine/Lifecycle.lean ====
section
/-! DEFINITION. `INIT`, `TEARDOWN`, the unwinding of a failed bring-up and the platform's own steps
(spec/43_init.md R180 to R190; spec/70_reset_and_hazards.md R240). -/

namespace Sys2Proof.Machine

/-- The state with another lifecycle state. -/
def State.setLifecycle (s : State) (l : Lifecycle) : State := { s with lifecycle := l }

/-- The lifecycle state an `INIT` step needs (R180, R182). -/
def InitLabel.needs : InitLabel → Lifecycle
  | .i1 | .i2 | .i3 | .i4 | .i5 | .i6 | .i7 => .registersMapped
  | .i8 | .i9 => .hardwareConfigured

/-- `I8`: bind the handler to the interrupt line (R182, R188). -/
def State.attachHandler (s : State) : State := { s with irqId := some s.cfg.irqId, handlerAttached := true }

/-- `INIT` goes on at the next label. -/
def goInit (k : Nat) (l : InitLabel) (t : State) : Answer State := .next (t.setSeq k (.init l))

/-- The steps of `INIT` (R182), each register write through the lock wrapper. -/
def initAction (k : Nat) (l : InitLabel) (s : State) : Answer State :=
  match l with
  | .i1 => lockedWrite k (zext32 s.cfg.modeExt) s.cfg.offMode s (goInit k .i2)
  | .i2 => lockedWrite k (zext32 (s.cfg.fcrClrRx ||| s.cfg.fcrClrTx)) s.cfg.offFcr s (goInit k .i3)
  | .i3 => lockedWrite k (zext32 s.cfg.lcrDle) s.cfg.offLcr s (goInit k .i4)
  | .i4 => lockedWrite k (zext32 (divisorLow s.cfg.divisor)) s.cfg.offDll s (goInit k .i5)
  | .i5 => lockedWrite k (zext32 (divisorHigh s.cfg.divisor)) s.cfg.offDlh s (goInit k .i6)
  | .i6 => lockedWrite k (zext32 s.cfg.lcrWlen8) s.cfg.offLcr s (goInit k .i7)
  | .i7 => lockedWrite k (zext32 s.cfg.modeNormal) s.cfg.offMode s
      (fun t => goInit k .i8 (t.setLifecycle .hardwareConfigured))
  | .i8 => goInit k .i9 s.attachHandler
  | .i9 => lockedWrite k (zext32 s.cfg.ierRdi) s.cfg.offIer s
      (fun t => .next ((t.setLifecycle .interruptsEnabled).endOp k .noValue))

/-- An `INIT` step in the wrong lifecycle state is refused (R180, R206), and so is the first step of an `INIT` while another
one is under way (R191: `INIT` runs once per life of an instance; R206 names no refusal for it, log 32). -/
def initStep (k : Nat) (l : InitLabel) (s : State) : Answer State :=
  if s.lifecycle ≠ l.needs then .refused .badLifecycle
  else if l = .i1 ∧ s.initUnderWay then .refused .badLifecycle
  else initAction k l s

/-- The lifecycle state a `TEARDOWN` step needs; the unwinding starts where registration failed and has no node to
unregister (R189, R190; log 13). -/
def TeardownLabel.needs (failed : Option BringUpError) : TeardownLabel → Lifecycle
  | .t1 => if failed.isSome then .interruptsEnabled else .running
  | .t2 => .interruptsDisabled
  | .t3 => if failed.isSome then .interruptsDisabled else .unregistered
  | .t4 => .registersUnmapped

/-- What the caller gets: nothing, or the error of the failed bring-up (R189). -/
def teardownResult : Option BringUpError → Result
  | none => .noValue
  | some .hardwareUnavailable => .raised .hardwareUnavailable
  | some .resourceExhausted => .raised .resourceExhausted

/-- The steps of `TEARDOWN` (R190): no register write; after `T3` the hardware's contents are unspecified. -/
def teardownAction (k : Nat) (l : TeardownLabel) (failed : Option BringUpError) (s : State) : State :=
  match l with
  | .t1 => ({ s with handlerAttached := false, lifecycle := .interruptsDisabled } : State).setSeq k
      (.teardown (if failed.isSome then .t3 else .t2) failed)
  | .t2 => (s.setLifecycle .unregistered).setSeq k (.teardown .t3 failed)
  | .t3 => (s.scrambleUart.setLifecycle .registersUnmapped).setSeq k (.teardown .t4 failed)
  | .t4 => (s.setLifecycle .uninitialized).endOp k (teardownResult failed)

/-- A `TEARDOWN` step: `T1` waits for the handler, and is refused while another operation is in progress (R190, R206; log 17). -/
def teardownStep (k : Nat) (l : TeardownLabel) (failed : Option BringUpError) (s : State) : Answer State :=
  if l = .t1 ∧ s.inHandler then .next s
  else if s.lifecycle ≠ l.needs failed then .refused .badLifecycle
  else if l = .t1 ∧ s.othersBusy k then .refused .badLifecycle
  else .next (teardownAction k l failed s)

/-- The platform's steps, each where its transition allows it (R180); a failure leaves the instance in `Uninitialized` (R205).
Two points the spec leaves open are settled here, both DESIGN CHOICE.
A second bring-up: `map` asks only for `Uninitialized`, so it may follow `T4` with no `create`, and the counter, the cursors, the
storage and the faults of the earlier life go on into it (R47, R191, R192 and R243 do not say; log 31).
The error of a failed mapping: R180 names `HardwareUnavailable`, R189 that or `ResourceExhausted`; the choice is an input of
`mapFailed` (log 33). -/
def platformStep (p : PlatformStep) (s : State) : State :=
  match p with
  | .powerUp => if s.lifecycle = .uninitialized then s.scrambleUart else s
  | .create => if s.lifecycle = .uninitialized ∧ s.quiescent then s.createInstance else s
  | .map => if s.lifecycle = .uninitialized then s.setLifecycle .registersMapped else s
  | .mapFailed e => if s.lifecycle = .uninitialized then s.returns (teardownResult (some e)) else s
  | .register => if s.lifecycle = .interruptsEnabled then s.setLifecycle .registered else s
  | .run => if s.lifecycle = .registered then s.setLifecycle .running else s

end Sys2Proof.Machine
end

