-- ==== Sys2Proof/Machine/Receive.lean ====
section
/-! DEFINITION. The receiver, the interrupt handler and the dequeue side (spec/42_receive.md R150 to R160;
spec/60_exceptions.md R210, R213). -/

namespace Sys2Proof.Machine

/-- `ARRIVE` (R150 with room, R151 with the holding full, R152 outside normal operation). -/
def arrive (s : State) : State :=
  match s.rxLine with
  | [] => s
  | b :: rest =>
    if !s.normal then { s with rxLine := rest }
    else if s.rxFifo.length < s.cfg.rxDepth then { s with rxLine := rest, rxFifo := s.rxFifo ++ [b] }
    else { s.addFault .rxHwOverrun with rxLine := rest }

/-- The interrupt entry where it is enabled (R210). -/
def enterHandler (s : State) : State := if s.entryEnabled then s.interruptEntry else s

/-- `RECV` after its bare read (R153, R67): an outcome raised by the access ends the handler (R203; log 18). -/
def recvDecide (t : State) : Answer State :=
  match t.result with
  | .word v => .next (t.setHandler (.enq (lowByte v)))
  | _ => .next t.interruptReturn

/-- `RECV` (R153): `RegRead(OFF_RXD)` without `register_lock`. -/
def recvStep (s : State) : Answer State := andThen (regRead s.cfg.offRxd s) recvDecide

/-- `ENQ` (R153, R154). -/
def enqStep (b : Byte) (s : State) : State :=
  withBufferLock .handler s (fun t => t.enqueue b) (fun t => t.setHandler .notify)

/-- The next step of `IRQ_HANDLER` (R153): `NOTIFY` changes no state but the position (R30). -/
def handlerStep (s : State) : Answer State :=
  match s.handler with
  | none => .next s
  | some .recv => recvStep s
  | some (.enq b) => .next (enqStep b s)
  | some .notify => .next (s.setHandler .ret)
  | some .ret => .next s.interruptReturn

/-- `WAIT` (R156): no step while the cursors are equal. -/
def waitStep (k : Nat) (asRead : Bool) (s : State) : State :=
  if s.notEmpty then s.setSeq k (.popDeq asRead) else s

/-- What `POP` returns, or `READ` as a sequence of one byte (R157, R159). -/
def popped (asRead : Bool) (b : Byte) : Result := if asRead then .bytes [b] else .byte b

/-- `DEQ` (R157): the emptiness test is not repeated. -/
def deqStep (k : Nat) (asRead : Bool) (s : State) : State :=
  withBufferLock (.process k) s State.dequeue (fun t => t.endOp k (popped asRead s.frontByte))

/-- `CANCEL` of the operation of context `k` (R160): only at `WAIT`. -/
def cancel (k : Nat) (s : State) : State :=
  match s.seqOf k with
  | some (.popWait _) => s.endOp k (.raised .interrupted)
  | _ => s

end Sys2Proof.Machine
end

