-- ==== Sys2Proof/Machine/Transmit.lean ====
section
/-! DEFINITION. The transmit path and the transmitter (spec/41_transmit.md R130 to R134, R136). -/

namespace Sys2Proof.Machine

/-- The line feed, after which a carriage return is sent (R132, 90_conflicts.md C3). -/
def lineFeed : Byte := 0x0A#8

/-- The carriage return (R132). -/
def carriageReturn : Byte := 0x0D#8

/-- `WRITE_CHAR b` (R130): it translates nothing. -/
def writeCharJob (b : Byte) : TxJob :=
  { label := .poll, cur := b, crNext := false, rest := [], n := 0, str := false }

/-- `WRITE_STR (b :: rest)` (R132). -/
def writeStrJob (b : Byte) (rest : List Byte) : TxJob :=
  { label := .poll, cur := b, crNext := b == lineFeed, rest := rest, n := 0, str := true }

/-- What follows a finished `WRITE_CHAR` (R132): the injected carriage return, the next input byte, or nothing. -/
def TxJob.next (j : TxJob) : Option TxJob :=
  if j.crNext then some { j with label := .poll, cur := carriageReturn, crNext := false }
  else
    match j.rest with
    | [] => none
    | b :: rest => some { j with label := .poll, cur := b, crNext := b == lineFeed, rest := rest, n := j.n + 1 }

/-- What the operation returns: `WRITE_STR` the count of input bytes (R133), `WRITE_CHAR` nothing. -/
def TxJob.returned (j : TxJob) : Result := if j.str then .count (j.n + 1) else .noValue

/-- `POLL` after its read (R130, R131): on to `SEND` when `TXRDY` was set, else again. -/
def pollDecide (k : Nat) (j : TxJob) (r : Result) (t : State) : Answer State :=
  match r with
  | .word v => if anyBit v t.cfg.lsrTxrdy then .next (t.setSeq k (.tx { j with label := .send })) else .next t
  | _ => .next t

/-- `POLL` (R130). -/
def pollStep (k : Nat) (j : TxJob) (s : State) : Answer State :=
  lockedRead k s.cfg.offLsr s (pollDecide k j)

/-- `SEND` (R130). -/
def sendStep (k : Nat) (j : TxJob) (s : State) : Answer State :=
  lockedWrite k (zext32 j.cur) s.cfg.offTxd s (fun t => .next (t.setSeq k (.tx { j with label := .count })))

/-- `COUNT`, a step of its own (R130, R134). -/
def countStep (k : Nat) (j : TxJob) (s : State) : State :=
  match j.next with
  | some j' => s.countByte.setSeq k (.tx j')
  | none => s.countByte.endOp k j.returned

/-- The step of a `WRITE_CHAR` or `WRITE_STR`. -/
def txStep (k : Nat) (j : TxJob) (s : State) : Answer State :=
  match j.label with
  | .poll => pollStep k j s
  | .send => sendStep k j s
  | .count => .next (countStep k j s)

/-- `DRAIN` (R136): where it is not enabled the transmitter has no step. -/
def drain (s : State) : State :=
  match s.txHold with
  | some b => if s.normal then { s with txLine := s.txLine ++ [b], txHold := none } else s
  | none => s

end Sys2Proof.Machine
end

