-- ==== Sys2Proof/Machine/Schedule.lean ====
section
/-! DEFINITION. One choice of the schedule (spec/60_exceptions.md R212): who is offered the step.  An agent that is offered a
step and has none enabled does not move (log 6). -/

namespace Sys2Proof.Machine

/-- A context with no operation running. -/
def Proc.idle : Proc := { seq := none, last := none }

/-- A new process context (R7: "any number of them"; log 23). -/
def spawn (s : State) : State := { s with procs := s.procs ++ [Proc.idle] }

/-- The first label of an operation and its operands, or what it returns where it has no step at all
(`WRITE_STR` of nothing, R132; `READ 0`, R159; log 20). -/
def Request.begins : Request → OpSeq ⊕ Result
  | .bus t => .inl (.bus t)
  | .ctrl w => .inl (.ctrl w)
  | .writeChar b => .inl (.tx (writeCharJob b))
  | .writeStr [] => .inr (.count 0)
  | .writeStr (b :: rest) => .inl (.tx (writeStrJob b rest))
  | .pop => .inl (.popWait false)
  | .read 0 => .inr (.bytes [])
  | .read (_ + 1) => .inl (.popWait true)
  | .init => .inl (.init .i1)
  | .teardown => .inl (.teardown .t1 none)
  | .unwind e => .inl (.teardown .t1 (some e))

/-- An operation is started on context `k`, which runs one at a time (R7). -/
def start (k : Nat) (r : Request) (s : State) : State :=
  match s.procs[k]? with
  | some { seq := none, .. } =>
    match r.begins with
    | .inl q => s.setSeq k q
    | .inr v => s.endOp k v
  | _ => s

/-- The step that the position `q` of context `k` names (R26). -/
def seqStep (k : Nat) (q : OpSeq) (s : State) : Answer State :=
  match q with
  | .bus t => busStep k t s
  | .ctrl w => ctrlStep k w s
  | .tx j => txStep k j s
  | .popWait asRead => .next (waitStep k asRead s)
  | .popDeq asRead => .next (deqStep k asRead s)
  | .init l => initStep k l s
  | .teardown l failed => teardownStep k l failed s

/-- The next step of context `k`, if it has one. -/
def procStep (k : Nat) (s : State) : Answer State :=
  match s.seqOf k with
  | some q => seqStep k q s
  | none => .next s

/-- On one core no process context moves while the handler runs (R212). -/
def asProcess (s : State) (f : State → Answer State) : Answer State := if s.processMayStep then f s else .next s

/-- One choice.  On one core the handler's steps exclude the process contexts' (R212); the platform is no agent of R7 and R212 does
not speak of it, and its steps, `cancel`, `spawn` and the UART's steps may fall anywhere, between handler steps too
(DESIGN CHOICE for the platform and `spawn`; log 34). -/
def take (e : Event) (s : State) : Answer State :=
  match e with
  | .spawn => .next (spawn s)
  | .start k r => asProcess s (fun t => .next (start k r t))
  | .proc k => asProcess s (procStep k)
  | .cancel k => .next (cancel k s)
  | .entry => .next (enterHandler s)
  | .handler => handlerStep s
  | .drain => .next (drain s)
  | .arrive => .next (arrive s)
  | .platform p => .next (platformStep p s)

/-- The next choice of the schedule; with none left nobody moves. -/
def takeNext (s : State) : Answer State :=
  match s.schedule with
  | [] => .next s
  | e :: es => take e { s with schedule := es }

end Sys2Proof.Machine
end

