-- ==== Sys2Proof/Machine/Step.lean ====
section
/-! DEFINITION. The step of the machine, and a word placed where it is run next. -/

namespace Sys2Proof.Machine

/-- A configuration that breaks R6 is refused before any step (R206); else the next choice of the schedule. -/
def step (s : State) : Host.Outcome State Fault Refusal :=
  if s.cfg.valid then takeNext s else .refused .badConfig

/-- The position of a context that issues this word next. -/
def wordSeq : OpWord → OpSeq
  | .bus t => .bus t
  | .ctrl w => .ctrl w

/-- The contexts with context 0 at position `q`; it is made if there is none. -/
def placeFirst (q : OpSeq) : List Proc → List Proc
  | [] => [{ seq := some q, last := none }]
  | p :: ps => { p with seq := some q } :: ps

/-- `s` with the word at the position of context 0, that context offered the next step, and what such a step needs: the
registers mapped (a session, which issues operations, exists only in `Running`, R180), `register_lock` free, the handler not
running (log 10). -/
def State.withFetchWord (s : State) (nbits w : Nat) : State :=
  match tableWord nbits w with
  | none => s
  | some x =>
    { s with
      procs := placeFirst (wordSeq x) s.procs
      schedule := .proc 0 :: s.schedule
      lifecycle := if s.mapped then s.lifecycle else .running
      registerLock := none
      inHandler := if s.processMayStep then s.inHandler else false
      handler := if s.processMayStep then s.handler else none }

end Sys2Proof.Machine
end

