-- ==== Sys2Proof/Machine/Instances.lean ====
section
/-! DEFINITION. Several device instances, which share no state (spec/10_state.md R48; spec/60_exceptions.md R220, R221). -/

namespace Sys2Proof.Machine

/-- One step of instance `n` of a list of instances; an instance that does not exist has no step.  R212 keeps the process contexts of
one core out of a running handler, and neither R7 nor R220 says whether instances with `N_CORES = 1` share that one core: each
instance is tested by its own `inHandler` alone, so the contexts and the handler of another instance may step between this
one's handler steps (DESIGN CHOICE, log 35). -/
def stepInstance (n : Nat) (sys : List State) : Host.Outcome (List State) Fault Refusal :=
  match sys[n]? with
  | none => .next sys
  | some s =>
    match step s with
    | .next t => .next (sys.set n t)
    | .fault r => .fault r
    | .refused r => .refused r

end Sys2Proof.Machine
end

