-- ==== Sys2Proof/Safety.lean ====
section
/-! DEFINITION. What counts as a safe state or run, in the terms the statements use: the invariant of the machine, the premises
of spec/70_reset_and_hazards.md R251, R252 and of spec/41_transmit.md R131, and the receive buffer read as a queue. -/

namespace Sys2Proof

/-- `T[39:32]` of a row of the opcode table, none for a `CTRL` row (R87). -/
def Instr.opcode : Instr → Option Byte
  | .rdRxd => some 0x00#8
  | .wrTxd _ => some 0x80#8
  | .rdDll => some 0x00#8
  | .wrDll _ => some 0x80#8
  | .rdIer => some 0x01#8
  | .wrIer _ => some 0x81#8
  | .rdDlh => some 0x01#8
  | .wrDlh _ => some 0x81#8
  | .rdFcr => some 0x02#8
  | .wrFcr _ => some 0x82#8
  | .rdLcr => some 0x03#8
  | .wrLcr _ => some 0x83#8
  | .rdLsr => some 0x05#8
  | .wrLsr _ => some 0x85#8
  | .rdMode => some 0x08#8
  | .wrMode _ => some 0x88#8
  | .ctrlReset _ => none
  | .ctrlGet _ => none

/-- The `DLE` a row of the opcode table asks for, none where it stands for any (R87). -/
def Instr.latch : Instr → Option Bool
  | .rdRxd | .wrTxd _ | .rdIer | .wrIer _ => some false
  | .rdDll | .wrDll _ | .rdDlh | .wrDlh _ => some true
  | .rdFcr | .wrFcr _ | .rdLcr | .wrLcr _ | .rdLsr | .wrLsr _ | .rdMode | .wrMode _ => none
  | .ctrlReset _ | .ctrlGet _ => none

/-- The written value, where there is one. -/
def Instr.written : Instr → Option Word
  | .wrTxd v | .wrDll v | .wrIer v | .wrDlh v | .wrFcr v | .wrLcr v | .wrLsr v | .wrMode v => some v
  | .rdRxd | .rdDll | .rdIer | .rdDlh | .rdFcr | .rdLcr | .rdLsr | .rdMode => none
  | .ctrlReset _ | .ctrlGet _ => none

/-- At the parameters of R5 every `BUS` word with the byte `op` in bits 39:32 is, under that latch bit, the instruction, whose
written value is bits 31:0 (R81, R87: the "Encoding" line of each rule of spec/40_register_access.md). -/
def EncodedAs (op : Byte) (dle : Bool) (instr : Word → Instr) : Prop :=
  ∀ t : BusWord, t.extractLsb' 32 8 = op → decodeBus Config.hw dle t = .ok (instr (t.extractLsb' 0 32))

/-- The parameters keep the fields apart as the defaults of R5 do, beyond what R6 asks: the latch bit and the clear bits
exist, the 8-bit code lies in its field, and no register of `INIT` lies behind another one. -/
structure Config.Separated (c : Config) : Prop where
  /-- R6 and R62. -/
  valid : c.valid = true
  /-- `LCR_DLE` is a bit. -/
  latchBit : c.lcrDle ≠ 0x00#8
  /-- `FCR_CLR_RX` is a bit. -/
  clearRxBit : c.fcrClrRx ≠ 0x00#8
  /-- `FCR_CLR_TX` is a bit. -/
  clearTxBit : c.fcrClrTx ≠ 0x00#8
  /-- `LCR_WLEN8` is a code of the field. -/
  wlenCode : c.lcrWlen8 &&& c.lcrWlenMask = c.lcrWlen8
  /-- The high latch does not lie behind the low one. -/
  latchesApart : c.offDlh ≠ c.offDll
  /-- Interrupt Enable does not lie behind Transmit Data. -/
  enableApart : c.offIer ≠ c.offTxd

end Sys2Proof

namespace Sys2Proof.Machine

/-- The invariant of the machine: the bounds that R20, R22, R23, R39 give the state, the locks free between steps (R43), the
handler's position and its flags in step (R44, R190). -/
structure StateInv (s : State) : Prop where
  /-- `storage` has C bytes (R38). -/
  storageLength : s.storage.length = s.cfg.capacity
  /-- `read_cursor` is in `[0, C)` (R39). -/
  readBound : s.readCursor < s.cfg.capacity
  /-- `write_cursor` is in `[0, C)` (R39). -/
  writeBound : s.writeCursor < s.cfg.capacity
  /-- `tx_counter` has CNT_BITS bits (R23). -/
  counterBound : s.txCounter < 2 ^ s.cfg.cntBits
  /-- `rx_fifo` holds at most RX_DEPTH bytes (R22). -/
  fifoBound : s.rxFifo.length ≤ s.cfg.rxDepth
  /-- `register_lock` is free in every state between two steps (R43). -/
  registerLockFree : s.registerLock = none
  /-- `buffer_lock` is free in every state between two steps (R43). -/
  bufferLockFree : s.bufferLock = none
  /-- `in_handler` is true while an `IRQ_HANDLER` has a position (R44). -/
  handlerPosition : s.inHandler = s.handler.isSome
  /-- The handler of an instance runs only while it is attached (R208, R190 `T1`). -/
  handlerOwned : s.inHandler = true → s.handlerAttached = true
  /-- An attached handler is bound to the line of this instance (R182 `I8`, R209). -/
  handlerLine : s.handlerAttached = true → s.irqId = some s.cfg.irqId
  /-- The handler is attached from `I8` until `T1` only (R44). -/
  attachedWhile : s.handlerAttached = true →
    s.lifecycle = .hardwareConfigured ∨ s.lifecycle = .interruptsEnabled ∨ s.lifecycle = .registered ∨ s.lifecycle = .running
  /-- At most one `INIT` is under way (R191). -/
  oneInit : s.procs.countP Proc.configuring ≤ 1

/-- No fault is recorded (R45). -/
def FaultFree (s : State) : Prop := s.faults = FaultSet.empty

/-- Context `k` is in a `WRITE_CHAR` or `WRITE_STR`. -/
def Writing (s : State) (k : Nat) (j : TxJob) : Prop := s.seqOf k = some (.tx j)

/-- At most one `WRITE_CHAR` in progress (R251). -/
def SingleWriter (s : State) : Prop := ∀ k k' j j', Writing s k j → Writing s k' j' → k = k'

/-- At most one `POP` in progress (R252). -/
def SingleReader (s : State) : Prop :=
  ∀ k k' q q', s.seqOf k = some q → s.seqOf k' = some q' →
    (∃ r, q = .popWait r ∨ q = .popDeq r) → (∃ r, q' = .popWait r ∨ q' = .popDeq r) → k = k'

/-- A reader that has passed `WAIT` has a byte to take (R156, R161). -/
def WokenReaderHasByte (s : State) : Prop := ∀ k asRead, s.seqOf k = some (.popDeq asRead) → s.notEmpty = true

/-- No context issues a raw transaction line or a configuration step. -/
def NoRawAccess (s : State) : Prop :=
  ∀ k q, s.seqOf k = some q → (∀ t, q ≠ .bus t) ∧ (∀ l, q ≠ .init l)

/-- A writer that has seen transmit-ready still has the holding to itself (R244). -/
def PolledHoldingEmpty (s : State) : Prop := ∀ k j, Writing s k j → j.label = .send → s.txHold = none

/-- The bytes a consumer can still read, oldest first (R40). -/
def State.readable (s : State) : List Byte :=
  (List.range s.avail).map (fun i => (s.storage[(s.readCursor + i) % s.cfg.capacity]?).getD 0x00#8)

/-- Successive enqueues. -/
def pushAll (s : State) (bs : List Byte) : State := bs.foldl State.enqueue s

/-- Everything the block keeps outside the registers, its position and its inputs included, is the same (R100, R216). -/
structure SameBlock (s t : State) : Prop where
  cfg             : t.cfg = s.cfg
  txLine          : t.txLine = s.txLine
  rxLine          : t.rxLine = s.rxLine
  txCounter       : t.txCounter = s.txCounter
  storage         : t.storage = s.storage
  readCursor      : t.readCursor = s.readCursor
  writeCursor     : t.writeCursor = s.writeCursor
  registerLock    : t.registerLock = s.registerLock
  bufferLock      : t.bufferLock = s.bufferLock
  lifecycle       : t.lifecycle = s.lifecycle
  handlerAttached : t.handlerAttached = s.handlerAttached
  inHandler       : t.inHandler = s.inHandler
  irqId           : t.irqId = s.irqId
  procs           : t.procs = s.procs
  handler         : t.handler = s.handler
  schedule        : t.schedule = s.schedule

/-- The first set of recorded faults lies in the second. -/
def FaultSet.subset (f g : FaultSet) : Prop := ∀ n, f.has n = true → g.has n = true

/-- An infinite run: the choices made and the states passed through. -/
structure IsRun (choice : Nat → Event) (run : Nat → State) : Prop where
  moves : ∀ n, take (choice n) (run n) = .next (run (n + 1))

/-- The assumption of the parameter TX_FAIR (R131): "an enabled `DRAIN` is eventually taken".  R131 does not say what is assumed
where `DRAIN` does not stay enabled; the reading taken is the weak one, any later choice of the transmitter meets it, even one
made when `DRAIN` is no longer enabled and that moves nothing (DESIGN CHOICE, log 22). -/
def TxFair (choice : Nat → Event) (run : Nat → State) : Prop :=
  (run 0).cfg.txFair = true → ∀ n, (run n).drainEnabled = true → ∃ m, n ≤ m ∧ choice m = .drain

/-- The lifecycle transitions of the spec (R25, R180, R190), with the end of an unwinding (R189). -/
def Lifecycle.allowed : Lifecycle → Lifecycle → Bool
  | .uninitialized, .registersMapped => true
  | .registersMapped, .hardwareConfigured => true
  | .hardwareConfigured, .interruptsEnabled => true
  | .interruptsEnabled, .registered => true
  | .registered, .running => true
  | .running, .interruptsDisabled => true
  | .interruptsEnabled, .interruptsDisabled => true
  | .interruptsDisabled, .unregistered => true
  | .interruptsDisabled, .registersUnmapped => true
  | .unregistered, .registersUnmapped => true
  | .registersUnmapped, .uninitialized => true
  | a, b => decide (a = b)

end Sys2Proof.Machine
end

