-- ==== Sys2Proof/Certificates/Slice0/Obligations.lean ====
section
/-! DEFINITION. The statements for the provers.  Each docstring names the rules of spec/ it comes from; titles, texts and
citations are in OBLIGATIONS.json. -/

open Sys2Proof Sys2Proof.Machine

/-! ### The register transactions and control operations (spec/40_register_access.md, spec/41_transmit.md section 4)

Each states the encoding its rule gives (`EncodedAs`, at the default parameters) and the effect, for all parameters. -/

/-- R101: `RD.LSR` completes in every state; `TXRDY` is 1 exactly when the holding is empty, every other bit is the free value's,
and nothing changes but the result and the counter of the free values, which moves on. -/
def Obligations.RdLsrShowsTransmitReady : Prop :=
  (∀ dle : Bool, EncodedAs 0x05#8 dle (fun _ => .rdLsr)) ∧
  (∀ s : State, ∃ (r : Word) (n : Nat),
    exec .rdLsr s = .next { s with result := .word r, draws := n } ∧ s.draws < n ∧
    (∀ j : Nat, j < 8 → s.cfg.lsrTxrdy.getLsbD j = true → r.getLsbD j = s.txHold.isNone) ∧
    (∀ j : Nat, j < 8 → s.cfg.lsrTxrdy.getLsbD j = false → r.getLsbD j = (Config.freeByte s.draws).getLsbD j) ∧
    r.extractLsb' 8 24 = Config.freeUpper (s.draws + 1))

/-- R102: `WR.LSR`, byte 0x85, is refused with every value, in every state. -/
def Obligations.WrLsrIsRefused : Prop :=
  (∀ dle : Bool, EncodedAs 0x85#8 dle .wrLsr) ∧ (∀ (v : Word) (s : State), exec (.wrLsr v) s = .refused .reservedWrite)

/-- R103: `WR.TXD` fills an empty holding with `v[7:0]`; on an occupied one it drops the byte and records `TxOverrun`. -/
def Obligations.WrTxdFillsHoldingOrOverruns : Prop :=
  EncodedAs 0x80#8 false .wrTxd ∧
  (∀ (v : Word) (s : State),
    (s.txHold = none →
      exec (.wrTxd v) s = .next { s with txHold := some (v.extractLsb' 0 8), result := .noValue }) ∧
    (∀ b : Byte, s.txHold = some b →
      exec (.wrTxd v) s = .next { s with faults := s.faults.add .txOverrun, result := .noValue }))

/-- R104: `RD.RXD` returns and removes the oldest held byte; with nothing held it completes with a free byte and removes
nothing.  Bits 31:8 are free, and every read takes free values of its own. -/
def Obligations.RdRxdTakesOldestByte : Prop :=
  EncodedAs 0x00#8 false (fun _ => .rdRxd) ∧
  (∀ s : State,
    (∀ (b : Byte) (rest : List Byte), s.rxFifo = b :: rest → ∃ (r : Word) (n : Nat),
      exec .rdRxd s = .next { s with rxFifo := rest, result := .word r, draws := n } ∧ s.draws < n ∧
      r.extractLsb' 0 8 = b ∧ r.extractLsb' 8 24 = Config.freeUpper s.draws) ∧
    (s.rxFifo = [] → ∃ (r : Word) (n : Nat), exec .rdRxd s = .next { s with result := .word r, draws := n } ∧
      s.draws < n ∧ r.extractLsb' 0 8 = Config.freeByte s.draws ∧ r.extractLsb' 8 24 = Config.freeUpper (s.draws + 1)))

/-- R105: `WR.LCR` refuses a value outside the defined set and records no fault then; else it stores `v[7:0]`, and records
`ConfigOutsideExtended` exactly outside extended mode.  At the parameters of R5 the set is 0x03 and 0x80 to 0x83. -/
def Obligations.WrLcrStoresOrRefuses : Prop :=
  (∀ dle : Bool, EncodedAs 0x83#8 dle .wrLcr) ∧
  (∀ (v : Word) (s : State),
    let b := v.extractLsb' 0 8
    let bad := (b &&& ~~~(s.cfg.lcrWlenMask ||| s.cfg.lcrDle)) ≠ 0x00#8 ∨
      ((b &&& s.cfg.lcrDle) = 0x00#8 ∧ (b &&& s.cfg.lcrWlenMask) ≠ s.cfg.lcrWlen8)
    (bad → exec (.wrLcr v) s = .refused .reservedValue) ∧
    (¬ bad → s.mode = s.cfg.modeExt → exec (.wrLcr v) s = .next { s with lcr := b, result := .noValue }) ∧
    (¬ bad → s.mode ≠ s.cfg.modeExt → exec (.wrLcr v) s =
      .next { s with lcr := b, faults := s.faults.add .configOutsideExtended, result := .noValue })) ∧
  (∀ (v : Word) (s : State), s.cfg = Config.hw →
    ((∃ t : State, exec (.wrLcr v) s = .next t) ↔
      v.extractLsb' 0 8 ∈ [0x03#8, 0x80#8, 0x81#8, 0x82#8, 0x83#8]))

/-- R106, R108, R110, R114, R116: the stored registers read back, with bits 31:8 free, for each read anew; nothing else changes. -/
def Obligations.StoredRegistersReadBack : Prop :=
  (∀ dle : Bool, EncodedAs 0x03#8 dle (fun _ => .rdLcr)) ∧ EncodedAs 0x00#8 true (fun _ => .rdDll) ∧
  EncodedAs 0x01#8 true (fun _ => .rdDlh) ∧ EncodedAs 0x01#8 false (fun _ => .rdIer) ∧
  (∀ dle : Bool, EncodedAs 0x08#8 dle (fun _ => .rdMode)) ∧
  ∀ s : State,
    (∃ (r : Word) (n : Nat), exec .rdLcr s = .next { s with result := .word r, draws := n } ∧ s.draws < n ∧
      r.extractLsb' 0 8 = s.lcr ∧ r.extractLsb' 8 24 = Config.freeUpper s.draws) ∧
    (∃ (r : Word) (n : Nat), exec .rdDll s = .next { s with result := .word r, draws := n } ∧ s.draws < n ∧
      r.extractLsb' 0 8 = s.dll ∧ r.extractLsb' 8 24 = Config.freeUpper s.draws) ∧
    (∃ (r : Word) (n : Nat), exec .rdDlh s = .next { s with result := .word r, draws := n } ∧ s.draws < n ∧
      r.extractLsb' 0 8 = s.dlh ∧ r.extractLsb' 8 24 = Config.freeUpper s.draws) ∧
    (∃ (r : Word) (n : Nat), exec .rdIer s = .next { s with result := .word r, draws := n } ∧ s.draws < n ∧
      r.extractLsb' 0 8 = s.ier ∧ r.extractLsb' 8 24 = Config.freeUpper s.draws) ∧
    (∃ (r : Word) (n : Nat), exec .rdMode s = .next { s with result := .word r, draws := n } ∧ s.draws < n ∧
      r.extractLsb' 0 8 = s.mode ∧ r.extractLsb' 8 24 = Config.freeUpper s.draws)

/-- R107, R109: a divisor-latch write stores `v[7:0]` and touches no other register; outside extended mode it also records
`ConfigOutsideExtended`. -/
def Obligations.DivisorLatchWritesStore : Prop :=
  EncodedAs 0x80#8 true .wrDll ∧ EncodedAs 0x81#8 true .wrDlh ∧
  ∀ (v : Word) (s : State),
    let f := if s.mode = s.cfg.modeExt then s.faults else s.faults.add .configOutsideExtended
    exec (.wrDll v) s = .next { s with dll := v.extractLsb' 0 8, faults := f, result := .noValue } ∧
    exec (.wrDlh v) s = .next { s with dlh := v.extractLsb' 0 8, faults := f, result := .noValue }

/-- R111: `WR.FCR` refuses any bit but the two clear bits; else each set bit empties its holding and nothing is stored. -/
def Obligations.WrFcrClearsHoldings : Prop :=
  (∀ dle : Bool, EncodedAs 0x82#8 dle .wrFcr) ∧
  ∀ (v : Word) (s : State),
    let b := v.extractLsb' 0 8
    ((b &&& ~~~(s.cfg.fcrClrRx ||| s.cfg.fcrClrTx)) ≠ 0x00#8 → exec (.wrFcr v) s = .refused .reservedValue) ∧
    ((b &&& ~~~(s.cfg.fcrClrRx ||| s.cfg.fcrClrTx)) = 0x00#8 → exec (.wrFcr v) s = .next { s with
      rxFifo := if (b &&& s.cfg.fcrClrRx) = 0x00#8 then s.rxFifo else []
      txHold := if (b &&& s.cfg.fcrClrTx) = 0x00#8 then s.txHold else none
      result := .noValue })

/-- R112: `RD.FCR` completes with a free 32-bit value, for each read anew, and changes nothing else. -/
def Obligations.RdFcrIsFree : Prop :=
  (∀ dle : Bool, EncodedAs 0x02#8 dle (fun _ => .rdFcr)) ∧
  ∀ s : State, ∃ n : Nat,
    exec .rdFcr s = .next { s with result := .word (Config.freeWord s.draws), draws := n } ∧ s.draws < n

/-- R113: `WR.IER` refuses any bit but the receive-data-interrupt bit; else it stores, and `irq` is recomputed at once. -/
def Obligations.WrIerStoresAndRecomputesIrq : Prop :=
  EncodedAs 0x81#8 false .wrIer ∧
  ∀ (v : Word) (s : State),
    let b := v.extractLsb' 0 8
    ((b &&& ~~~s.cfg.ierRdi) ≠ 0x00#8 → exec (.wrIer v) s = .refused .reservedValue) ∧
    ((b &&& ~~~s.cfg.ierRdi) = 0x00#8 → ∃ t : State, exec (.wrIer v) s = .next t ∧
      t = { s with ier := b, result := .noValue } ∧
      (t.irq = true ↔ s.rxFifo ≠ [] ∧ (b &&& s.cfg.ierRdi) ≠ 0x00#8))

/-- R115: `WR.MODE` stores one of its two values and refuses any other; no register or holding but `mode` changes. -/
def Obligations.WrModeStoresOrRefuses : Prop :=
  (∀ dle : Bool, EncodedAs 0x88#8 dle .wrMode) ∧
  ∀ (v : Word) (s : State),
    let b := v.extractLsb' 0 8
    (b = s.cfg.modeExt ∨ b = s.cfg.modeNormal → exec (.wrMode v) s = .next { s with mode := b, result := .noValue }) ∧
    (b ≠ s.cfg.modeExt → b ≠ s.cfg.modeNormal → exec (.wrMode v) s = .refused .reservedValue)

/-- R135: `CTRL.RESET`, the word with `OP` 0, zeroes the counter, whatever `ARG`, and changes nothing else. -/
def Obligations.CtrlResetZeroesCounter : Prop :=
  ∀ (arg : Word) (s : State),
    transactCtrl (ctrlWord 0#32 arg) s = exec (.ctrlReset arg) s ∧
    exec (.ctrlReset arg) s = .next { s with txCounter := 0, result := .noValue }

/-- R137: `CTRL.GET`, the word with `OP` 1, returns the counter, whatever `ARG`, and changes nothing; a `CTRL.RESET` before it makes that 0. -/
def Obligations.CtrlGetReturnsCounter : Prop :=
  ∀ (arg arg' : Word) (s : State),
    transactCtrl (ctrlWord 1#32 arg) s = exec (.ctrlGet arg) s ∧
    exec (.ctrlGet arg) s = .next { s with result := .count s.txCounter } ∧
    andThen (exec (.ctrlReset arg') s) (exec (.ctrlGet arg)) = .next { s with txCounter := 0, result := .count 0 }

/-- R138, R201: a control word with `OP` neither 0 nor 1 ends with `InvalidOperation` and changes no state; no other control
word does. -/
def Obligations.OtherControlWordsAreInvalid : Prop :=
  ∀ (op arg : Word) (s : State),
    (op ≠ 0#32 → op ≠ 1#32 → transactCtrl (ctrlWord op arg) s = .next { s with result := .raised .invalidOperation }) ∧
    (op = 0#32 ∨ op = 1#32 → ∀ t : State, transactCtrl (ctrlWord op arg) s = .next t → t.result ≠ .raised .invalidOperation)

/-- R75, R100, R203, R221: every transaction made while the registers are not mapped, whatever its word, changes nothing but the
faults and raises `IOFault`; while they are mapped none raises anything.  The operation that made the access, a raw line or a
`WRITE_CHAR` or `WRITE_STR` at `POLL` or `SEND`, ends with `IOFault` there and has no later step; an `INIT` step makes no access
then, being refused for the lifecycle (R180); a handler at `RECV` ends (the model's reading of R203 for it, log 18). -/
def Obligations.UnmappedTransactionIsIOFault : Prop :=
  ∀ (w : BusWord) (s : State),
    (s.mapped = false →
      transact w s = .next { s with faults := s.faults.add .unmappedAccess, result := .raised .ioFault }) ∧
    (s.mapped = true → ∀ t : State, transact w s = .next t → ∀ e : Exc, t.result ≠ .raised e) ∧
    (∀ (k : Nat) (q : OpSeq) (es : List Event), s.cfg.valid = true → s.processMayStep = true → s.registerLock = none →
      s.mapped = false → s.seqOf k = some q → s.schedule = .proc k :: es →
      (q = .bus w ∨ (∃ j : TxJob, q = .tx j ∧ j.label ≠ .count) →
        step s = .next { s with
          faults := s.faults.add .unmappedAccess
          result := .raised .ioFault
          procs := s.procs.set k { seq := none, last := some (.raised .ioFault) }
          schedule := es }) ∧
      (∀ l : InitLabel, q = .init l → step s = .refused .badLifecycle)) ∧
    (∀ es : List Event, s.cfg.valid = true → s.mapped = false → s.handler = some .recv → s.schedule = .handler :: es →
      step s = .next { s with
        faults := s.faults.add .unmappedAccess
        result := .raised .ioFault
        inHandler := false
        handler := none
        schedule := es })

/-- R117: at the parameters of R5 a mapped transaction at word offset 4, 6, 7 or 9 to 127 is refused, in either direction, and
at no other offset. -/
def Obligations.ReservedOffsetsAreRefused : Prop :=
  ∀ (w : BusWord) (s : State), s.cfg = Config.hw → s.mapped = true →
    (transact w s = .refused .reservedOffset ↔ busOffset w ∉ [0, 1, 2, 3, 5, 8])

/-- R100: no register transaction changes the counter, the storage, the cursors, the lifecycle, the line, the locks, the handler's
flags or any position; the receive holding never grows and no recorded fault is lost. -/
def Obligations.TransactionsLeaveTheBlockAlone : Prop :=
  ∀ (i : Instr) (s t : State), i.access ≠ none → exec i s = .next t →
    SameBlock s t ∧ t.rxFifo.length ≤ s.rxFifo.length ∧ s.faults.subset t.faults

/-- R61: of a written word only bits 7:0 matter. -/
def Obligations.UpperWriteBitsAreIgnored : Prop :=
  ∀ (v v' : Word) (s : State), v.extractLsb' 0 8 = v'.extractLsb' 0 8 →
    exec (.wrTxd v) s = exec (.wrTxd v') s ∧ exec (.wrDll v) s = exec (.wrDll v') s ∧
    exec (.wrDlh v) s = exec (.wrDlh v') s ∧ exec (.wrIer v) s = exec (.wrIer v') s ∧
    exec (.wrFcr v) s = exec (.wrFcr v') s ∧ exec (.wrLcr v) s = exec (.wrLcr v') s ∧
    exec (.wrLsr v) s = exec (.wrLsr v') s ∧ exec (.wrMode v) s = exec (.wrMode v') s

/-! ### Decoding and the step (spec/30_encoding.md) -/

/-- R86, R100: a context at a `BUS` word that decodes to an instruction runs exactly that instruction, under the register lock,
and the operation ends with its result. -/
def Obligations.StepRunsTheDecodedTransaction : Prop :=
  ∀ (s : State) (k : Nat) (w : BusWord) (i : Instr) (es : List Event),
    s.cfg.valid = true → s.schedule = .proc k :: es → s.seqOf k = some (.bus w) → s.processMayStep = true →
    s.registerLock = none → s.mapped = true → decodeBus s.cfg s.dle w = .ok i →
    step s = andThen (exec i { s with schedule := es, registerLock := some (.process k) })
      (fun u => .next (({ u with registerLock := none } : State).endOp k u.result))

/-- R82, R135, R137: a context at a `CTRL` word that decodes to an instruction runs exactly that instruction, mapped or not,
and the operation ends with its result. -/
def Obligations.StepRunsTheDecodedControl : Prop :=
  ∀ (s : State) (k : Nat) (w : CtrlWord) (i : Instr) (es : List Event),
    s.cfg.valid = true → s.schedule = .proc k :: es → s.seqOf k = some (.ctrl w) → s.processMayStep = true →
    decodeCtrl w = .ok i →
    step s = andThen (exec i { s with schedule := es }) (fun u => .next (u.endOp k u.result))

/-- R81, R82, R86: decoding the word of a well-formed instruction gives it back, for all parameters that R6 allows. -/
def Obligations.DecodeOfEncodeIsTheInstruction : Prop :=
  ∀ (c : Config) (dle : Bool) (i : Instr), c.valid = true → i.wellFormed c dle = true →
    decode c dle (encode c i) = .ok i

/-- R87: words written out from the table decode to the instructions it names. -/
def Obligations.SampleWordsDecode : Prop :=
  decodeBus Config.hw false 0x0000000000#40 = .ok .rdRxd ∧
  decodeBus Config.hw true 0x0000000000#40 = .ok .rdDll ∧
  decodeBus Config.hw false 0x80FFFFFF46#40 = .ok (.wrTxd 0xFFFFFF46#32) ∧
  decodeBus Config.hw true 0x8100000001#40 = .ok (.wrDlh 0x00000001#32) ∧
  decodeBus Config.hw false 0x8100000001#40 = .ok (.wrIer 0x00000001#32) ∧
  decodeBus Config.hw true 0x05000000FF#40 = .ok .rdLsr ∧
  decodeBus Config.hw false 0x8800000007#40 = .ok (.wrMode 0x00000007#32) ∧
  decodeCtrl 0x00000001DEADBEEF#64 = .ok (.ctrlGet 0xDEADBEEF#32)

/-- R87: at the parameters of R5 a `BUS` word decodes to an instruction exactly when its bits 39:32 and the latch bit are those of
the instruction's row, and its bits 31:0 are the value it writes. -/
def Obligations.DecodingIsTheOpcodeTable : Prop :=
  ∀ (dle : Bool) (w : BusWord) (i : Instr),
    decodeBus Config.hw dle w = .ok i ↔
      (i.opcode = some (w.extractLsb' 32 8) ∧ (∀ d : Bool, i.latch = some d → d = dle) ∧
        (∀ v : Word, i.written = some v → v = w.extractLsb' 0 32))

/-- R5, R6, R62, R206: a configuration that breaks one of the constraints written out here is refused before any step, and one that
breaks none is not.  The "four overlaid offsets" of R6 are read as the five names listed, and the bounds of R5 as constraints (log 1,
DEDUCED). -/
def Obligations.BadConfigurationIsRefused : Prop :=
  ∀ s : State,
    let c := s.cfg
    let own : List Nat := [c.offFcr, c.offLcr, c.offLsr, c.offMode]
    let overlaid : List Nat := [c.offRxd, c.offTxd, c.offDll, c.offDlh, c.offIer]
    let broken : Prop :=
      c.capacity < 2 ∨ c.rxDepth < 1 ∨ c.nCores < 1 ∨ c.stride ≠ 4 ∨ c.regBits ≠ 32 ∨ c.base % 4 ≠ 0 ∨
      c.offFcr = c.offLcr ∨ c.offFcr = c.offLsr ∨ c.offFcr = c.offMode ∨ c.offLcr = c.offLsr ∨ c.offLcr = c.offMode ∨
      c.offLsr = c.offMode ∨ (∃ o : Nat, o ∈ own ∧ o ∈ overlaid) ∨ (∃ o : Nat, (o ∈ own ∨ o ∈ overlaid) ∧ 128 ≤ o) ∨
      (c.lcrWlenMask &&& c.lcrDle) ≠ 0x00#8 ∨ (c.fcrClrRx &&& c.fcrClrTx) ≠ 0x00#8 ∨ c.modeExt = c.modeNormal ∨
      c.clockHz.toNat / 16 / c.baud < 1 ∨ 65535 < c.clockHz.toNat / 16 / c.baud
    (broken → step s = .refused .badConfig) ∧ (¬ broken → s.schedule = [] → step s = .next s)

/-- R62: every slot address `BASE + 4 * off` is a multiple of 4 provided BASE is, and a configuration whose BASE is not is
refused. -/
def Obligations.SlotAddressesAreAligned : Prop :=
  (∀ (c : Config) (off : Nat), c.valid = true → c.slotAddress off = c.base + 4 * off ∧ c.slotAddress off % 4 = 0) ∧
  (∀ s : State, s.cfg.base % 4 ≠ 0 → step s = .refused .badConfig)

/-! ### Rules of the whole machine -/

/-- R47, R240: what reset leaves, for every value of what the spec leaves unspecified. -/
def Obligations.ResetState : Prop :=
  ∀ (c : Config) (d : ResetDraws),
    let s := State.resetWith c d
    s.txLine = [] ∧ s.txCounter = 0 ∧ s.readCursor = 0 ∧ s.writeCursor = 0 ∧ s.notEmpty = false ∧
    s.registerLock = none ∧ s.bufferLock = none ∧ s.lifecycle = .uninitialized ∧ s.mapped = false ∧
    s.handlerAttached = false ∧ s.inHandler = false ∧ s.entryEnabled = false ∧ s.irqId = none ∧ s.faults = FaultSet.empty ∧
    s.handler = none ∧ (∀ k : Nat, s.seqOf k = none) ∧
    s.lcr = d.lcr ∧ s.ier = d.ier ∧ s.dll = d.dll ∧ s.dlh = d.dlh ∧ s.mode = d.mode ∧ s.txHold = d.txHold ∧
    s.rxFifo = d.rxFifo ∧ s.storage = d.storage ∧ s.rxLine = d.rxLine

/-- The invariant holds after reset, whatever the spec leaves unspecified there, as long as the holdings and the storage have
their sizes (R22, R38). -/
def Obligations.ResetMeetsTheInvariant : Prop :=
  ∀ (c : Config) (d : ResetDraws), c.valid = true → d.storage.length = c.capacity → d.rxFifo.length ≤ c.rxDepth →
    StateInv (State.resetWith c d)

/-- R20, R22, R23, R39, R43, R44, R191: every step keeps the invariant. -/
def Obligations.EveryStepKeepsTheInvariant : Prop :=
  ∀ s t : State, StateInv s → step s = .next t → StateInv t

/-- R45, R240: no step removes a recorded fault, but for the creation of an instance in `Uninitialized`, which leaves none; and no
step ends in a fault of the machine (log 9). -/
def Obligations.FaultsOnlyGrow : Prop :=
  ∀ s : State,
    (∀ t : State, step s = .next t → s.faults.subset t.faults ∨
      (s.schedule.head? = some (.platform .create) ∧ s.lifecycle = .uninitialized ∧ t.faults = FaultSet.empty)) ∧
    (∀ f : Fault, step s ≠ .fault f)

/-- R20, R24: the output line is only appended to, by at most one byte and only by the transmitter's step; the input line is only
consumed from the front, by at most one byte and only by the receiver's step. -/
def Obligations.LinesMoveOneWay : Prop :=
  ∀ s t : State, step s = .next t →
    (t.txLine = s.txLine ∨ (∃ b : Byte, s.schedule.head? = some .drain ∧ s.txHold = some b ∧ t.txLine = s.txLine ++ [b])) ∧
    (t.rxLine = s.rxLine ∨ (∃ b : Byte, s.schedule.head? = some .arrive ∧ s.rxLine = b :: t.rxLine))

/-- R5, R26: no step changes the parameters, and a step uses up exactly one choice of the schedule. -/
def Obligations.ParametersNeverChange : Prop :=
  ∀ s t : State, step s = .next t → t.cfg = s.cfg ∧ t.schedule = s.schedule.tail

/-- R23, R218: the counter changes only at a `COUNT` step, by one and wrapping, at a `CTRL.RESET`, to zero, and at an instance's
creation, to zero. -/
def Obligations.CounterMovesOnlyByItsOperations : Prop :=
  ∀ s t : State, step s = .next t → t.txCounter ≠ s.txCounter →
    (∃ k : Nat, s.schedule.head? = some (.proc k) ∧
      ((∃ j : TxJob, s.seqOf k = some (.tx j) ∧ j.label = .count ∧ t.txCounter = (s.txCounter + 1) % 2 ^ s.cfg.cntBits) ∨
       (∃ w : CtrlWord, s.seqOf k = some (.ctrl w) ∧ ctrlOp w = 0#32 ∧ t.txCounter = 0))) ∨
    (s.schedule.head? = some (.platform .create) ∧ t.txCounter = 0)

/-- R38, R39: while an instance exists, the storage and the write cursor change only at the handler's `ENQ`, as R154 says, and the
read cursor only at a `DEQ`, by one modulo C. -/
def Obligations.BufferChangesOnlyAtEnqAndDeq : Prop :=
  ∀ s t : State, step s = .next t → s.schedule.head? ≠ some (.platform .create) →
    (t.storage = s.storage ∧ t.writeCursor = s.writeCursor ∨
      ∃ b : Byte, s.schedule.head? = some .handler ∧ s.handler = some (.enq b) ∧
        t.storage = s.storage.set s.writeCursor b ∧ t.writeCursor = (s.writeCursor + 1) % s.cfg.capacity) ∧
    (t.readCursor = s.readCursor ∨
      ∃ (k : Nat) (asRead : Bool), s.schedule.head? = some (.proc k) ∧ s.seqOf k = some (.popDeq asRead) ∧
        t.readCursor = (s.readCursor + 1) % s.cfg.capacity)

/-- R25, R180, R190: the lifecycle moves only along its transitions. -/
def Obligations.LifecycleMovesAlongItsTransitions : Prop :=
  ∀ s t : State, step s = .next t → Lifecycle.allowed s.lifecycle t.lifecycle = true

/-- R35, R36, R105: while the registers are mapped, a step leaves Line Control, Interrupt Enable and Mode as they were or at a value
of the defined set; so a reserved bit in them can only come from reset. -/
def Obligations.ReservedBitsComeOnlyFromReset : Prop :=
  ∀ s t : State, step s = .next t → t.mapped = true →
    (t.lcr = s.lcr ∨ lcrAccepted s.cfg t.lcr = true) ∧ (t.ier = s.ier ∨ ierAccepted s.cfg t.ier = true) ∧
    (t.mode = s.mode ∨ t.mode = s.cfg.modeExt ∨ t.mode = s.cfg.modeNormal)

/-- R48: a step of one instance changes no other instance. -/
def Obligations.InstancesShareNothing : Prop :=
  ∀ (n m : Nat) (sys sys' : List State), stepInstance n sys = .next sys' → m ≠ n → sys'[m]? = sys[m]?

/-! ### Transmit (spec/41_transmit.md) -/

/-- R136: the transmitter's step, where it is enabled, moves the held byte to the line; elsewhere nothing moves.  It is not enabled
in extended mode or with nothing held. -/
def Obligations.DrainMovesTheHeldByte : Prop :=
  ∀ (s : State) (es : List Event), s.cfg.valid = true → s.schedule = .drain :: es →
    (∀ b : Byte, s.txHold = some b → s.mode = s.cfg.modeNormal →
      step s = .next { s with txLine := s.txLine ++ [b], txHold := none, schedule := es }) ∧
    (s.txHold = none ∨ s.mode ≠ s.cfg.modeNormal → step s = .next { s with schedule := es }) ∧
    (s.mode = s.cfg.modeExt → s.mode ≠ s.cfg.modeNormal)

/-- R131, R254: as long as nobody else moves, a writer at `POLL` with a byte held stays at `POLL`, however often it polls; the spin
is no outcome and records no fault. -/
def Obligations.PollSpinsWhileAByteIsHeld : Prop :=
  ∀ (s : State) (k n : Nat) (j : TxJob) (b : Byte) (es : List Event),
    s.cfg.valid = true → s.mapped = true → s.processMayStep = true → s.registerLock = none → s.txHold = some b →
    s.seqOf k = some (.tx j) → j.label = .poll → s.schedule = List.replicate n (.proc k) ++ es →
    ∃ (r : Result) (d : Nat),
      Host.Core.run Sys2Proof.core n s = .next { s with schedule := es, result := r, draws := d }

/-- R130, R132, R133, R140: with one writer and a drain after every byte, `WRITE_STR bs` puts `bs` with a carriage return after every
line feed on the line, counts every byte sent, returns the count of input bytes and records no fault. -/
def Obligations.WriteStrSendsLineFeedCarriageReturn : Prop :=
  ∀ (s : State) (k : Nat) (bs : List Byte) (es : List Event),
    let out : List Byte := bs.flatMap (fun b => if b = 0x0A#8 then [0x0A#8, 0x0D#8] else [b])
    StateInv s → s.cfg.valid = true → s.cfg.lsrTxrdy ≠ 0x00#8 → s.mapped = true → s.mode = s.cfg.modeNormal → s.dle = false →
    s.txHold = none → s.processMayStep = true → (∃ p : Proc, s.procs[k]? = some p ∧ p.seq = none) →
    s.schedule = .start k (.writeStr bs) ::
      ((List.replicate out.length [Event.proc k, Event.proc k, Event.proc k, Event.drain]).flatten ++ es) →
    out.length = bs.length + bs.count 0x0A#8 ∧
    ∃ t : State, Host.Core.run Sys2Proof.core (1 + 4 * out.length) s = .next t ∧
      t.txLine = s.txLine ++ out ∧
      t.txCounter = (s.txCounter + bs.length + bs.count 0x0A#8) % 2 ^ s.cfg.cntBits ∧
      t.procs[k]? = some { seq := none, last := some (.count bs.length) } ∧
      t.txHold = none ∧ t.faults = s.faults ∧ t.schedule = es

/-- R139, R244, R251: while the instance runs, with at most one `WRITE_CHAR` in progress, no raw transaction and no `INIT`, a writer
past `POLL` finds the holding empty, and no step records `TxOverrun`. -/
def Obligations.OneWriterNeverOverruns : Prop :=
  ∀ s t : State, step s = .next t → s.lifecycle = .running → SingleWriter s → NoRawAccess s → PolledHoldingEmpty s →
    PolledHoldingEmpty t ∧ t.faults.has .txOverrun = s.faults.has .txOverrun

/-- R139: two writers that both polled before either sent: the second `SEND` finds the holding occupied and records `TxOverrun`. -/
def Obligations.TwoWritersOverrun : Prop :=
  ∀ (s : State) (a b : Nat) (ja jb : TxJob) (es : List Event), a ≠ b →
    s.cfg.valid = true → s.cfg.lsrTxrdy ≠ 0x00#8 → s.mapped = true → s.dle = false → s.processMayStep = true →
    s.registerLock = none → s.txHold = none → s.seqOf a = some (.tx ja) → s.seqOf b = some (.tx jb) →
    ja.label = .poll → jb.label = .poll → s.schedule = .proc a :: .proc b :: .proc a :: .proc b :: es →
    ∃ t : State, Host.Core.run Sys2Proof.core 4 s = .next t ∧ t.txHold = some ja.cur ∧ t.faults.has .txOverrun = true ∧
      t.seqOf a = some (.tx { ja with label := .count }) ∧ t.seqOf b = some (.tx { jb with label := .count })

/-- R131: where TX_FAIR is assumed, a byte held in normal mode does not stay for ever. -/
def Obligations.FairTransmitterEmptiesTheHolding : Prop :=
  ∀ (choice : Nat → Event) (run : Nat → State), IsRun choice run → TxFair choice run →
    (run 0).cfg.txFair = true → (∀ n : Nat, (run n).mode = (run n).cfg.modeNormal) →
    ∀ n : Nat, (run n).txHold ≠ none → ∃ m : Nat, n < m ∧ (run m).txHold = none

/-- R248: with the latches open, `SEND` reaches Divisor Latch Low: nothing is sent, the byte is written to the latch, and in normal
mode the configuration fault is recorded. -/
def Obligations.SendWithLatchesOpenWritesTheDivisor : Prop :=
  ∀ (s : State) (k : Nat) (j : TxJob) (es : List Event),
    s.cfg.valid = true → s.cfg.offTxd = s.cfg.offDll → s.dle = true → s.mode = s.cfg.modeNormal → s.mapped = true →
    s.processMayStep = true → s.registerLock = none → s.seqOf k = some (.tx j) → j.label = .send →
    s.schedule = .proc k :: es →
    ∃ t : State, step s = .next t ∧ t.dll = j.cur ∧ t.txHold = s.txHold ∧ t.faults = s.faults.add .configOutsideExtended ∧
      t.seqOf k = some (.tx { j with label := .count })

/-! ### Receive (spec/42_receive.md, spec/60_exceptions.md) -/

/-- R150, R151, R152: an arrival is held where there is room in normal mode, is lost with `RxHwOverrun` where the holding is full, and
is lost without a fault outside normal mode; with nothing to arrive nothing moves. -/
def Obligations.ArrivalIsHeldOrLost : Prop :=
  ∀ (s : State) (es : List Event), s.cfg.valid = true → s.schedule = .arrive :: es →
    (s.rxLine = [] → step s = .next { s with schedule := es }) ∧
    (∀ (b : Byte) (rest : List Byte), s.rxLine = b :: rest →
      (s.mode ≠ s.cfg.modeNormal → step s = .next { s with rxLine := rest, schedule := es }) ∧
      (s.mode = s.cfg.modeNormal → s.rxFifo.length < s.cfg.rxDepth →
        step s = .next { s with rxLine := rest, rxFifo := s.rxFifo ++ [b], schedule := es }) ∧
      (s.mode = s.cfg.modeNormal → s.cfg.rxDepth ≤ s.rxFifo.length →
        step s = .next { s with rxLine := rest, faults := s.faults.add .rxHwOverrun, schedule := es }))

/-- R29, R208, R210, R214: the interrupt entry is taken exactly when a byte is held, the enable bit is set, the handler is attached
and not running; it sets the handler's flag and position and changes no register. -/
def Obligations.InterruptEntryIsMaskedThreeWays : Prop :=
  ∀ (s : State) (es : List Event), s.cfg.valid = true → s.schedule = .entry :: es →
    (s.rxFifo ≠ [] ∧ (s.ier &&& s.cfg.ierRdi) ≠ 0x00#8 ∧ s.handlerAttached = true ∧ s.inHandler = false →
      step s = .next { s with inHandler := true, handler := some .recv, schedule := es }) ∧
    (s.rxFifo = [] ∨ (s.ier &&& s.cfg.ierRdi) = 0x00#8 ∨ s.handlerAttached = false ∨ s.inHandler = true →
      step s = .next { s with schedule := es })

/-- R153, R154, R213: with the latches closed and the register lock free or held, the four steps of `IRQ_HANDLER` move the oldest held
byte into the buffer and return; the entry is enabled again exactly if a byte is still held. -/
def Obligations.HandlerMovesOneByteToTheBuffer : Prop :=
  ∀ (s : State) (b : Byte) (rest : List Byte) (es : List Event),
    s.cfg.valid = true → s.mapped = true → s.dle = false → s.bufferLock = none → s.handler = some .recv →
    s.rxFifo = b :: rest → s.schedule = .handler :: .handler :: .handler :: .handler :: es →
    ∃ (r : Result) (d : Nat) (t : State), Host.Core.run Sys2Proof.core 4 s = .next t ∧
      t = { s with
        rxFifo := rest
        storage := s.storage.set s.writeCursor b
        writeCursor := (s.writeCursor + 1) % s.cfg.capacity
        inHandler := false
        handler := none
        result := r
        draws := d
        schedule := es } ∧
      (t.entryEnabled = true ↔ rest ≠ [] ∧ (s.ier &&& s.cfg.ierRdi) ≠ 0x00#8 ∧ s.handlerAttached = true)

/-- R212, R220: on one core no process context moves while the handler runs.  That the start of an operation is a step of its
context too, and so does nothing then, is the model's choice (log 11, DESIGN CHOICE). -/
def Obligations.NoProcessStepInsideTheHandlerOnOneCore : Prop :=
  ∀ (s : State) (k : Nat) (r : Request) (es : List Event), s.cfg.valid = true → s.cfg.nCores = 1 → s.inHandler = true →
    (s.schedule = .proc k :: es ∨ s.schedule = .start k r :: es) → step s = .next { s with schedule := es }

/-- R40, R154, R157: read as a queue, the buffer takes a byte at the back and gives the byte at the front, until the byte that would
be its C-th makes it read as empty. -/
def Obligations.BufferIsAQueueThatWrapsToEmpty : Prop :=
  ∀ (s : State) (b : Byte), s.storage.length = s.cfg.capacity → s.readCursor < s.cfg.capacity →
    s.writeCursor < s.cfg.capacity →
    (s.avail + 1 < s.cfg.capacity → (s.enqueue b).readable = s.readable ++ [b]) ∧
    (s.avail + 1 = s.cfg.capacity → (s.enqueue b).readable = [] ∧ (s.enqueue b).notEmpty = false) ∧
    (s.notEmpty = true → s.readable = s.frontByte :: s.dequeue.readable) ∧
    (s.notEmpty = false ↔ s.readable = [])

/-- R155: after pushes with no dequeue from an empty buffer, the readable bytes are the last `k mod C` pushed. -/
def Obligations.OverflowKeepsTheNewestBytes : Prop :=
  ∀ (s : State) (bs : List Byte), s.storage.length = s.cfg.capacity → s.writeCursor < s.cfg.capacity →
    s.readCursor = s.writeCursor →
    (pushAll s bs).readable = bs.drop (bs.length - bs.length % s.cfg.capacity) ∧
    (pushAll s bs).writeCursor = (s.writeCursor + bs.length) % s.cfg.capacity ∧ (pushAll s bs).faults = s.faults

/-- R156, R157, R159: `POP` and `READ` wait while the cursors are equal, then return the byte at the read cursor and advance it. -/
def Obligations.PopWaitsThenTakesTheFrontByte : Prop :=
  ∀ (s : State) (k : Nat) (asRead : Bool) (es : List Event),
    StateInv s → s.cfg.valid = true → s.processMayStep = true → s.seqOf k = some (.popWait asRead) →
    s.schedule = .proc k :: .proc k :: es →
    (s.readCursor = s.writeCursor → Host.Core.run Sys2Proof.core 2 s = .next { s with schedule := es }) ∧
    (s.readCursor ≠ s.writeCursor → ∃ b : Byte, s.storage[s.readCursor]? = some b ∧
      Host.Core.run Sys2Proof.core 2 s = .next { s with
        readCursor := (s.readCursor + 1) % s.cfg.capacity
        procs := s.procs.set k { seq := none, last := some (if asRead then .bytes [b] else .byte b) }
        schedule := es })

/-- R160, R202: a cancellation ends a `POP` or `READ` at `WAIT` with `Interrupted` and consumes no byte; it does nothing to any other
operation, one past `WAIT` included.  That the signal is directed at one context, and is lost where it finds no operation at `WAIT`,
is the model's choice (log 29, DESIGN CHOICE). -/
def Obligations.CancelConsumesNoByte : Prop :=
  ∀ (s : State) (k : Nat) (es : List Event), s.cfg.valid = true → s.schedule = .cancel k :: es →
    (∀ asRead : Bool, s.seqOf k = some (.popWait asRead) → step s = .next { s with
      procs := s.procs.set k { seq := none, last := some (.raised .interrupted) }
      schedule := es }) ∧
    ((∀ asRead : Bool, s.seqOf k ≠ some (.popWait asRead)) → step s = .next { s with schedule := es })

/-- R132, R159: `READ 0` and `WRITE_STR` of nothing end at once and touch neither the buffer nor a register; `READ n` with `n` at
least 1 goes to `WAIT`, however large `n` is.  That starting is a step of its own is the model's choice (log 20, DESIGN CHOICE). -/
def Obligations.EmptyOperationsEndAtOnce : Prop :=
  ∀ (s : State) (k n : Nat) (es : List Event) (p : Proc), s.cfg.valid = true → s.processMayStep = true →
    s.procs[k]? = some p → p.seq = none →
    (s.schedule = .start k (.read 0) :: es →
      step s = .next { s with procs := s.procs.set k { seq := none, last := some (.bytes []) }, schedule := es }) ∧
    (s.schedule = .start k (.writeStr []) :: es →
      step s = .next { s with procs := s.procs.set k { seq := none, last := some (.count 0) }, schedule := es }) ∧
    (s.schedule = .start k (.read (n + 1)) :: es →
      step s = .next { s with procs := s.procs.set k { p with seq := some (.popWait true) }, schedule := es })

/-- R161: two readers that both passed `WAIT` with one byte there: the second takes a stale byte and leaves the buffer reading as
holding C - 1 bytes, with no fault. -/
def Obligations.TwoReadersRace : Prop :=
  ∀ (s : State) (a b : Nat) (es : List Event), a ≠ b → StateInv s → s.cfg.valid = true → s.processMayStep = true → s.avail = 1 →
    s.seqOf a = some (.popWait true) → s.seqOf b = some (.popWait true) →
    s.schedule = .proc a :: .proc b :: .proc a :: .proc b :: es →
    ∃ (x y : Byte) (t : State), s.storage[s.readCursor]? = some x ∧
      s.storage[(s.readCursor + 1) % s.cfg.capacity]? = some y ∧
      Host.Core.run Sys2Proof.core 4 s = .next t ∧
      t.procs[a]? = some { seq := none, last := some (.bytes [x]) } ∧
      t.procs[b]? = some { seq := none, last := some (.bytes [y]) } ∧
      t.avail = s.cfg.capacity - 1 ∧ t.faults = s.faults

/-- R252: with one reader, a step keeps a byte there for the reader past `WAIT`, provided an enqueue, where the step is one, does not
make the buffer read as empty. -/
def Obligations.OneReaderAlwaysHasItsByte : Prop :=
  ∀ s t : State, step s = .next t → StateInv s → SingleReader s → WokenReaderHasByte s → s.lifecycle = .running →
    (∀ b : Byte, s.schedule.head? = some .handler → s.handler = some (.enq b) → s.avail + 1 < s.cfg.capacity) →
    WokenReaderHasByte t

/-! ### Bring-up and teardown (spec/43_init.md) -/

/-- R183, R184: the two truncating divisions equal one by 1,843,200; the divisor fits the two latches; the source's value is 26. -/
def Obligations.DivisorFormula : Prop :=
  (∀ c : Config, c.baud = 115200 → c.divisor = c.clockHz.toNat / 1843200 ∧ c.divisor ≤ 2330) ∧
  (∀ d : Nat, d ≤ 65535 → (divisorHigh d).toNat * 256 + (divisorLow d).toNat = d) ∧
  Config.hw.divisor = 26

/-- R182, R192: `INIT` from `RegistersMapped`, with nobody else stepping, ends in the state of R192, whatever the hardware's registers
and holdings were, and records no fault.  Starting is a step of its own (log 20, DESIGN CHOICE). -/
def Obligations.InitEndsInTheConfiguredState : Prop :=
  ∀ (s : State) (k : Nat) (es : List Event), s.cfg.Separated → s.lifecycle = .registersMapped → s.registerLock = none →
    s.processMayStep = true → (∃ p : Proc, s.procs[k]? = some p ∧ p.seq = none) →
    (∀ (m : Nat) (l : InitLabel), s.seqOf m = some (.init l) → l = .i1) →
    s.schedule = .start k .init :: (List.replicate 9 (.proc k) ++ es) →
    Host.Core.run Sys2Proof.core 10 s = .next { s with
      mode := s.cfg.modeNormal
      lcr := s.cfg.lcrWlen8
      dll := divisorLow s.cfg.divisor
      dlh := divisorHigh s.cfg.divisor
      ier := s.cfg.ierRdi
      txHold := none
      rxFifo := []
      handlerAttached := true
      irqId := some s.cfg.irqId
      lifecycle := .interruptsEnabled
      procs := s.procs.set k { seq := none, last := some .noValue }
      result := .noValue
      schedule := es }

/-- R180, R191, R206: an `INIT` step in a lifecycle state that is not its own is refused, and so is the first step of an `INIT` while
another one is past its first step.  That breaking R191 is refused, and as `BadLifecycle`, is the model's choice (log 32, DESIGN
CHOICE). -/
def Obligations.InitInTheWrongStateIsRefused : Prop :=
  ∀ (s : State) (k : Nat) (l : InitLabel) (es : List Event), s.cfg.valid = true → s.processMayStep = true →
    s.seqOf k = some (.init l) → s.schedule = .proc k :: es →
    (l ∈ [InitLabel.i1, .i2, .i3, .i4, .i5, .i6, .i7] → s.lifecycle ≠ .registersMapped → step s = .refused .badLifecycle) ∧
    (l ∈ [InitLabel.i8, .i9] → s.lifecycle ≠ .hardwareConfigured → step s = .refused .badLifecycle) ∧
    (l = .i1 → (∃ (m : Nat) (l' : InitLabel), s.seqOf m = some (.init l') ∧ l' ≠ .i1) → step s = .refused .badLifecycle)

/-- R190: `TEARDOWN` of a running, idle instance passes through the four states in order: `T1` detaches the handler and `T2` follows,
neither writing a register nor anything else but the position; after `T3` the registers are unmapped and only the contents of the
UART's registers and holdings are open; `T4` ends in `Uninitialized` and touches nothing.  Starting is a step of its own (log 20,
DESIGN CHOICE). -/
def Obligations.TeardownReversesBringUp : Prop :=
  ∀ (s : State) (k : Nat) (p : Proc) (es : List Event), s.cfg.valid = true → s.lifecycle = .running → s.inHandler = false →
    s.quiescent = true → s.procs[k]? = some p →
    s.schedule = .start k .teardown :: .proc k :: .proc k :: .proc k :: .proc k :: es →
    Host.Core.run Sys2Proof.core 2 s = .next { s with
      handlerAttached := false
      lifecycle := .interruptsDisabled
      procs := s.procs.set k { p with seq := some (.teardown .t2 none) }
      schedule := .proc k :: .proc k :: .proc k :: es } ∧
    Host.Core.run Sys2Proof.core 3 s = .next { s with
      handlerAttached := false
      lifecycle := .unregistered
      procs := s.procs.set k { p with seq := some (.teardown .t3 none) }
      schedule := .proc k :: .proc k :: es } ∧
    Lifecycle.mapped .interruptsDisabled = true ∧ Lifecycle.mapped .unregistered = true ∧
    Lifecycle.mapped .registersUnmapped = false ∧
    ∃ d : ResetDraws,
      let u : State := { s with
        txHold := d.txHold
        rxFifo := d.rxFifo
        lcr := d.lcr
        dll := d.dll
        dlh := d.dlh
        ier := d.ier
        mode := d.mode
        draws := d.draws
        handlerAttached := false }
      d.rxFifo.length ≤ s.cfg.rxDepth ∧ s.draws < d.draws ∧
      Host.Core.run Sys2Proof.core 4 s = .next { u with
        lifecycle := .registersUnmapped
        procs := s.procs.set k { p with seq := some (.teardown .t4 none) }
        schedule := .proc k :: es } ∧
      Host.Core.run Sys2Proof.core 5 s = .next { u with
        lifecycle := .uninitialized
        procs := s.procs.set k { seq := none, last := some .noValue }
        schedule := es }

/-- R190, R206: `T1` waits for a running handler, and is refused in the wrong lifecycle state or while another operation is in
progress.  The order of the three tests is the model's choice (log 17, DESIGN CHOICE). -/
def Obligations.TeardownNeedsQuiescence : Prop :=
  ∀ (s : State) (k : Nat) (es : List Event), s.cfg.valid = true → s.processMayStep = true →
    s.seqOf k = some (.teardown .t1 none) → s.schedule = .proc k :: es →
    (s.inHandler = true → step s = .next { s with schedule := es }) ∧
    (s.inHandler = false → s.lifecycle ≠ .running → step s = .refused .badLifecycle) ∧
    (s.inHandler = false → (∃ (m : Nat) (q : OpSeq), m ≠ k ∧ s.seqOf m = some q) → step s = .refused .badLifecycle)

/-- R189: after a failed registration the unwinding detaches the handler, unmaps the registers, returns to `Uninitialized` and reports
the error.  The form of the unwinding is the model's reading of R189 (log 13, DEDUCED). -/
def Obligations.FailedBringUpUnwinds : Prop :=
  ∀ (s : State) (k : Nat) (e : BringUpError) (es : List Event), s.cfg.valid = true → s.lifecycle = .interruptsEnabled →
    s.inHandler = false → s.quiescent = true → (∃ p : Proc, s.procs[k]? = some p) →
    s.schedule = .start k (.unwind e) :: .proc k :: .proc k :: .proc k :: es →
    ∃ t : State, Host.Core.run Sys2Proof.core 4 s = .next t ∧ t.lifecycle = .uninitialized ∧ t.mapped = false ∧
      t.handlerAttached = false ∧ t.faults = s.faults ∧
      t.procs[k]? = some { seq := none, last := some (match e with
        | .hardwareUnavailable => .raised .hardwareUnavailable
        | .resourceExhausted => .raised .resourceExhausted) }
end

