-- ==== Sys2Proof/Laws/Encoding.lean ====
section
/-! SUPPORT. The fields of a word built from its fields, and the byte of a word built from a byte
(spec/30_encoding.md R81, R82, R84). -/

namespace Sys2Proof

/-- The low part of a concatenation. -/
theorem extract_low {a b : Nat} (x : BitVec a) (y : BitVec b) : (x ++ y).extractLsb' 0 b = y := by
  apply BitVec.eq_of_getLsbD_eq
  intro i hi
  simp [BitVec.getLsbD_append, hi]

/-- The high part of a concatenation. -/
theorem extract_high {a b : Nat} (x : BitVec a) (y : BitVec b) : (x ++ y).extractLsb' b a = x := by
  apply BitVec.eq_of_getLsbD_eq
  intro i hi
  simp [BitVec.getLsbD_append, hi]

/-- The part that starts inside the first half of a concatenation. -/
theorem extract_middle {a b n : Nat} (x : BitVec a) (y : BitVec b) (i : Nat) :
    (x ++ y).extractLsb' (b + i) n = x.extractLsb' i n := by
  apply BitVec.eq_of_getLsbD_eq
  intro j hj
  simp only [BitVec.getLsbD_extractLsb', hj, decide_true, Bool.true_and, BitVec.getLsbD_append]
  rw [if_neg (by omega)]
  congr 1; omega

@[simp] theorem busWrite_busWord (w : Bool) (off : Nat) (d : Word) : busWrite (busWord w off d) = w := by
  have h := extract_middle (n := 1) (BitVec.ofBool w ++ BitVec.ofNat 7 off) d 7
  rw [extract_high] at h
  have h0 := congrArg (fun x => x.getLsbD 0) h
  simp only [BitVec.getLsbD_extractLsb'] at h0
  have : (BitVec.ofBool w ++ BitVec.ofNat 7 off ++ d).getLsbD 39 = w := by simpa using h0
  exact this

@[simp] theorem busOffset_busWord (w : Bool) (off : Nat) (d : Word) : busOffset (busWord w off d) = off % 128 := by
  have h := extract_middle (n := 7) (BitVec.ofBool w ++ BitVec.ofNat 7 off) d 0
  rw [extract_low] at h
  have h' : (busWord w off d).extractLsb' 32 7 = BitVec.ofNat 7 off := h
  unfold busOffset
  rw [h']; simp

@[simp] theorem busData_busWord (w : Bool) (off : Nat) (d : Word) : busData (busWord w off d) = d :=
  extract_low (BitVec.ofBool w ++ BitVec.ofNat 7 off) d

@[simp] theorem ctrlOp_ctrlWord (op arg : Word) : ctrlOp (ctrlWord op arg) = op := extract_high op arg

@[simp] theorem ctrlArg_ctrlWord (op arg : Word) : ctrlArg (ctrlWord op arg) = arg := extract_low op arg

namespace Machine

@[simp] theorem lowByte_zext32 (b : Byte) : lowByte (zext32 b) = b := by
  apply BitVec.eq_of_getLsbD_eq
  intro i hi
  simp only [lowByte, zext32, BitVec.getLsbD_extractLsb', BitVec.getLsbD_setWidth, hi, decide_true, Bool.true_and,
    Nat.zero_add, decide_eq_true (show i < 32 by omega)]

@[simp] theorem lowByte_readResult (u : BitVec 24) (b : Byte) : lowByte (readResult u b) = b := extract_low u b

/-- The upper 24 bits of a read result are the free value's (R61). -/
theorem upper_readResult (u : BitVec 24) (b : Byte) : (readResult u b).extractLsb' 8 24 = u := extract_high u b

/-- Bits 7:0 of a read result are the low byte's (R100). -/
theorem readResult_getLsbD (u : BitVec 24) (b : Byte) {j : Nat} (hj : j < 8) :
    (readResult u b).getLsbD j = b.getLsbD j := by
  have h := congrArg (fun x => x.getLsbD j) (lowByte_readResult u b)
  simpa [lowByte, hj] using h

/-- A mask of the low byte sees the low byte only (R84). -/
theorem anyBit_eq (v : Word) (m : Byte) : anyBit v m = (lowByte v &&& m != 0x00#8) := by
  have h : v &&& zext32 m = zext32 (lowByte v &&& m) := by
    apply BitVec.eq_of_getLsbD_eq
    intro i hi
    by_cases h8 : i < 8
    · simp [zext32, lowByte, h8, hi]
    · have : m.getLsbD i = false := BitVec.getLsbD_of_ge _ _ (by omega)
      simp [zext32, this]
  have hz (b : Byte) : zext32 b = 0#32 ↔ b = 0x00#8 := by
    constructor
    · intro hb
      rw [← lowByte_zext32 b, hb]; rfl
    · rintro rfl; rfl
  unfold anyBit
  rw [h]
  rw [Bool.eq_iff_iff]
  simp [bne_iff_ne, hz]

/-- The bits of a Line Status value (R101): the flag where the mask is, the free bits elsewhere. -/
theorem lineStatus_getLsbD (m free : Byte) (ready : Bool) {j : Nat} (hj : j < 8) :
    (lineStatus m free ready).getLsbD j = if m.getLsbD j then ready else free.getLsbD j := by
  cases ready <;> cases hm : m[j] <;> simp [lineStatus, hj, hm]

/-- The transmit-ready field of a Line Status value (R101). -/
theorem lineStatus_and (m free : Byte) (ready : Bool) : lineStatus m free ready &&& m = if ready then m else 0x00#8 := by
  apply BitVec.eq_of_getLsbD_eq
  intro i hi
  cases ready <;> cases h : m[i] <;> simp [lineStatus, hi, h]

/-- The status test on a Line Status value sees the transmit-ready flag, where the mask is a bit at all (R101). -/
theorem anyBit_lineStatus (u : BitVec 24) (m free : Byte) (ready : Bool) :
    anyBit (readResult u (lineStatus m free ready)) m = (ready && m != 0x00#8) := by
  rw [anyBit_eq, lowByte_readResult, lineStatus_and]
  cases ready <;> simp

end Machine

end Sys2Proof
end

