-- ==== Sys2Proof/Laws/Decode.lean ====
section
/-! SUPPORT. What a valid configuration says of the offsets (spec/00_scope.md R6), and which register an offset selects
(spec/30_encoding.md R86). -/

namespace Sys2Proof

/-- R6 on the parameters, as facts. -/
theorem Config.valid_iff (c : Config) :
    c.valid = true ↔ 2 ≤ c.capacity ∧ 1 ≤ c.rxDepth ∧ 1 ≤ c.nCores ∧ c.stride = 4 ∧ c.regBits = 32 ∧ c.base % 4 = 0 ∧
      c.offsetsValid = true ∧ c.masksValid = true ∧ 1 ≤ c.divisor ∧ c.divisor ≤ 65535 := by
  simp only [Config.valid, Bool.and_eq_true, decide_eq_true_eq, and_assoc]

/-- R6 on the four offsets that stand alone: each differs from the others and from the overlaid ones. -/
structure Config.Apart (c : Config) : Prop where
  fcr_lcr : c.offFcr ≠ c.offLcr
  fcr_lsr : c.offFcr ≠ c.offLsr
  fcr_mode : c.offFcr ≠ c.offMode
  lcr_lsr : c.offLcr ≠ c.offLsr
  lcr_mode : c.offLcr ≠ c.offMode
  lsr_mode : c.offLsr ≠ c.offMode
  fcr : c.offFcr ≠ c.offRxd ∧ c.offFcr ≠ c.offTxd ∧ c.offFcr ≠ c.offDll ∧ c.offFcr ≠ c.offDlh ∧ c.offFcr ≠ c.offIer
  lcr : c.offLcr ≠ c.offRxd ∧ c.offLcr ≠ c.offTxd ∧ c.offLcr ≠ c.offDll ∧ c.offLcr ≠ c.offDlh ∧ c.offLcr ≠ c.offIer
  lsr : c.offLsr ≠ c.offRxd ∧ c.offLsr ≠ c.offTxd ∧ c.offLsr ≠ c.offDll ∧ c.offLsr ≠ c.offDlh ∧ c.offLsr ≠ c.offIer
  mode : c.offMode ≠ c.offRxd ∧ c.offMode ≠ c.offTxd ∧ c.offMode ≠ c.offDll ∧ c.offMode ≠ c.offDlh ∧
    c.offMode ≠ c.offIer
  small : ∀ r, c.offset r < 128

/-- A valid configuration keeps the offsets apart. -/
theorem Config.apart {c : Config} (h : c.valid = true) : c.Apart := by
  have h := ((Config.valid_iff c).1 h).2.2.2.2.2.2.1
  simp only [Config.offsetsValid, Config.ownOffsets, Config.overlaidOffsets, Bool.and_eq_true, decide_eq_true_eq,
    List.nodup_cons, List.mem_cons, List.not_mem_nil, or_false, not_or, not_false_eq_true, List.nodup_nil, and_true,
    List.all_cons, List.all_nil, List.cons_append, List.nil_append, Bool.not_eq_true', List.contains_eq_mem,
    decide_eq_false_iff_not] at h
  obtain ⟨⟨⟨⟨h1, h2, h3⟩, ⟨h4, h5⟩, h6⟩, hf, hl, hs, hm⟩, b1, b2, b3, b4, b5, b6, b7, b8, b9⟩ := h
  exact ⟨h1, h2, h3, h4, h5, h6, hf, hl, hs, hm, fun r => by cases r <;> assumption⟩

/-- The offset of a reachable register selects it (R86), whichever order the lines of R86 stand in. -/
theorem selectReg_offset {c : Config} {dle write : Bool} {r : Reg} (h : c.valid = true)
    (hr : c.reachable dle r write = true) : selectReg c dle write (c.offset r) = some r := by
  have a := Config.apart h
  cases r <;> simp only [Config.reachable, Config.hiddenByLatch, Bool.and_eq_true, Bool.not_eq_true',
    bne_iff_ne, Bool.and_eq_false_iff, Bool.or_eq_false_iff, beq_eq_false_iff_ne] at hr <;>
    simp only [selectReg, Config.offset]
  case dll => simp [hr]
  case dlh => simp [hr.1, hr.2]
  case rxd =>
    obtain ⟨hw, hd⟩ := hr
    rcases hd with hd | ⟨h1, h2⟩
    · simp [hw, hd]
    · simp [hw, h1, h2]
  case txd =>
    obtain ⟨hw, hd⟩ := hr
    rcases hd with hd | ⟨h1, h2⟩
    · simp [hw, hd]
    · simp [hw, h1, h2]
  case ier =>
    obtain ⟨hd, hn⟩ := hr
    rcases hd with hd | ⟨h1, h2⟩ <;> cases write <;> simp_all
  case fcr => simp [a.fcr]
  case lcr => simp [a.lcr, a.fcr_lcr.symm]
  case lsr => simp [a.lsr, a.fcr_lsr.symm, a.lcr_lsr.symm]
  case mode => simp [a.mode, a.fcr_mode.symm, a.lcr_mode.symm, a.lsr_mode.symm]

/-- The word of a reachable register decodes to the access it names (R86). -/
theorem decodeBus_busWord {c : Config} {dle write : Bool} {r : Reg} {v : Word} {i : Instr} (h : c.valid = true)
    (hr : c.reachable dle r write = true) (hi : accessInstr r write v = some i) :
    decodeBus c dle (busWord write (c.offset r) v) = .ok i := by
  have hs := selectReg_offset h hr
  have hb : c.offset r % 128 = c.offset r := Nat.mod_eq_of_lt ((Config.apart h).small r)
  simp only [decodeBus, busWrite_busWord, busOffset_busWord, busData_busWord, hb, hs, Option.bind_some, hi]

/-- A `BUS` word decodes to a register transaction, never to a control operation (R80). -/
theorem decodeBus_access {c : Config} {dle : Bool} {t : BusWord} {i : Instr} (h : decodeBus c dle t = .ok i) :
    i.access ≠ none := by
  unfold decodeBus at h
  split at h
  next j hj =>
    obtain rfl := Except.ok.inj h
    obtain ⟨r, _, hr⟩ := Option.bind_eq_some_iff.1 hj
    cases r <;> cases hw : busWrite t <;> simp only [accessInstr, hw, Option.some.injEq, reduceCtorEq] at hr <;>
      subst hr <;> simp [Instr.access]
  next => cases h

/-- A `CTRL` word decodes to a control operation (R87). -/
theorem decodeCtrl_cases {k : CtrlWord} {i : Instr} (h : decodeCtrl k = .ok i) :
    (ctrlOp k = 0#32 ∧ i = .ctrlReset (ctrlArg k)) ∨ (ctrlOp k = 1#32 ∧ i = .ctrlGet (ctrlArg k)) := by
  unfold decodeCtrl at h
  split at h
  next h0 => exact .inl ⟨h0, (Except.ok.inj h).symm⟩
  next =>
    split at h
    next h1 => exact .inr ⟨h1, (Except.ok.inj h).symm⟩
    next => cases h

end Sys2Proof
end

