-- ==== Sys2Proof/Laws/State.lean ====
section
/-! SUPPORT. One lemma per field per named update of State, so that no proof unfolds a record update. -/

namespace Sys2Proof.Machine

section
variable (s : State)

@[simp] theorem State.addFault_cfg (f : Fault) : (s.addFault f).cfg = s.cfg := rfl
@[simp] theorem State.addFault_txHold (f : Fault) : (s.addFault f).txHold = s.txHold := rfl
@[simp] theorem State.addFault_rxFifo (f : Fault) : (s.addFault f).rxFifo = s.rxFifo := rfl
@[simp] theorem State.addFault_lcr (f : Fault) : (s.addFault f).lcr = s.lcr := rfl
@[simp] theorem State.addFault_dll (f : Fault) : (s.addFault f).dll = s.dll := rfl
@[simp] theorem State.addFault_dlh (f : Fault) : (s.addFault f).dlh = s.dlh := rfl
@[simp] theorem State.addFault_ier (f : Fault) : (s.addFault f).ier = s.ier := rfl
@[simp] theorem State.addFault_mode (f : Fault) : (s.addFault f).mode = s.mode := rfl
@[simp] theorem State.addFault_txLine (f : Fault) : (s.addFault f).txLine = s.txLine := rfl
@[simp] theorem State.addFault_rxLine (f : Fault) : (s.addFault f).rxLine = s.rxLine := rfl
@[simp] theorem State.addFault_txCounter (f : Fault) : (s.addFault f).txCounter = s.txCounter := rfl
@[simp] theorem State.addFault_storage (f : Fault) : (s.addFault f).storage = s.storage := rfl
@[simp] theorem State.addFault_readCursor (f : Fault) : (s.addFault f).readCursor = s.readCursor := rfl
@[simp] theorem State.addFault_writeCursor (f : Fault) : (s.addFault f).writeCursor = s.writeCursor := rfl
@[simp] theorem State.addFault_registerLock (f : Fault) : (s.addFault f).registerLock = s.registerLock := rfl
@[simp] theorem State.addFault_bufferLock (f : Fault) : (s.addFault f).bufferLock = s.bufferLock := rfl
@[simp] theorem State.addFault_lifecycle (f : Fault) : (s.addFault f).lifecycle = s.lifecycle := rfl
@[simp] theorem State.addFault_handlerAttached (f : Fault) : (s.addFault f).handlerAttached = s.handlerAttached := rfl
@[simp] theorem State.addFault_inHandler (f : Fault) : (s.addFault f).inHandler = s.inHandler := rfl
@[simp] theorem State.addFault_irqId (f : Fault) : (s.addFault f).irqId = s.irqId := rfl
@[simp] theorem State.addFault_faults (f : Fault) : (s.addFault f).faults = s.faults.add f := rfl
@[simp] theorem State.addFault_procs (f : Fault) : (s.addFault f).procs = s.procs := rfl
@[simp] theorem State.addFault_handler (f : Fault) : (s.addFault f).handler = s.handler := rfl
@[simp] theorem State.addFault_result (f : Fault) : (s.addFault f).result = s.result := rfl
@[simp] theorem State.addFault_draws (f : Fault) : (s.addFault f).draws = s.draws := rfl
@[simp] theorem State.addFault_schedule (f : Fault) : (s.addFault f).schedule = s.schedule := rfl

@[simp] theorem State.returns_cfg (r : Result) : (s.returns r).cfg = s.cfg := rfl
@[simp] theorem State.returns_txHold (r : Result) : (s.returns r).txHold = s.txHold := rfl
@[simp] theorem State.returns_rxFifo (r : Result) : (s.returns r).rxFifo = s.rxFifo := rfl
@[simp] theorem State.returns_lcr (r : Result) : (s.returns r).lcr = s.lcr := rfl
@[simp] theorem State.returns_dll (r : Result) : (s.returns r).dll = s.dll := rfl
@[simp] theorem State.returns_dlh (r : Result) : (s.returns r).dlh = s.dlh := rfl
@[simp] theorem State.returns_ier (r : Result) : (s.returns r).ier = s.ier := rfl
@[simp] theorem State.returns_mode (r : Result) : (s.returns r).mode = s.mode := rfl
@[simp] theorem State.returns_txLine (r : Result) : (s.returns r).txLine = s.txLine := rfl
@[simp] theorem State.returns_rxLine (r : Result) : (s.returns r).rxLine = s.rxLine := rfl
@[simp] theorem State.returns_txCounter (r : Result) : (s.returns r).txCounter = s.txCounter := rfl
@[simp] theorem State.returns_storage (r : Result) : (s.returns r).storage = s.storage := rfl
@[simp] theorem State.returns_readCursor (r : Result) : (s.returns r).readCursor = s.readCursor := rfl
@[simp] theorem State.returns_writeCursor (r : Result) : (s.returns r).writeCursor = s.writeCursor := rfl
@[simp] theorem State.returns_registerLock (r : Result) : (s.returns r).registerLock = s.registerLock := rfl
@[simp] theorem State.returns_bufferLock (r : Result) : (s.returns r).bufferLock = s.bufferLock := rfl
@[simp] theorem State.returns_lifecycle (r : Result) : (s.returns r).lifecycle = s.lifecycle := rfl
@[simp] theorem State.returns_handlerAttached (r : Result) : (s.returns r).handlerAttached = s.handlerAttached := rfl
@[simp] theorem State.returns_inHandler (r : Result) : (s.returns r).inHandler = s.inHandler := rfl
@[simp] theorem State.returns_irqId (r : Result) : (s.returns r).irqId = s.irqId := rfl
@[simp] theorem State.returns_faults (r : Result) : (s.returns r).faults = s.faults := rfl
@[simp] theorem State.returns_procs (r : Result) : (s.returns r).procs = s.procs := rfl
@[simp] theorem State.returns_handler (r : Result) : (s.returns r).handler = s.handler := rfl
@[simp] theorem State.returns_result (r : Result) : (s.returns r).result = r := rfl
@[simp] theorem State.returns_draws (r : Result) : (s.returns r).draws = s.draws := rfl
@[simp] theorem State.returns_schedule (r : Result) : (s.returns r).schedule = s.schedule := rfl

@[simp] theorem State.drawn_cfg (n : Nat) : (s.drawn n).cfg = s.cfg := rfl
@[simp] theorem State.drawn_txHold (n : Nat) : (s.drawn n).txHold = s.txHold := rfl
@[simp] theorem State.drawn_rxFifo (n : Nat) : (s.drawn n).rxFifo = s.rxFifo := rfl
@[simp] theorem State.drawn_lcr (n : Nat) : (s.drawn n).lcr = s.lcr := rfl
@[simp] theorem State.drawn_dll (n : Nat) : (s.drawn n).dll = s.dll := rfl
@[simp] theorem State.drawn_dlh (n : Nat) : (s.drawn n).dlh = s.dlh := rfl
@[simp] theorem State.drawn_ier (n : Nat) : (s.drawn n).ier = s.ier := rfl
@[simp] theorem State.drawn_mode (n : Nat) : (s.drawn n).mode = s.mode := rfl
@[simp] theorem State.drawn_txLine (n : Nat) : (s.drawn n).txLine = s.txLine := rfl
@[simp] theorem State.drawn_rxLine (n : Nat) : (s.drawn n).rxLine = s.rxLine := rfl
@[simp] theorem State.drawn_txCounter (n : Nat) : (s.drawn n).txCounter = s.txCounter := rfl
@[simp] theorem State.drawn_storage (n : Nat) : (s.drawn n).storage = s.storage := rfl
@[simp] theorem State.drawn_readCursor (n : Nat) : (s.drawn n).readCursor = s.readCursor := rfl
@[simp] theorem State.drawn_writeCursor (n : Nat) : (s.drawn n).writeCursor = s.writeCursor := rfl
@[simp] theorem State.drawn_registerLock (n : Nat) : (s.drawn n).registerLock = s.registerLock := rfl
@[simp] theorem State.drawn_bufferLock (n : Nat) : (s.drawn n).bufferLock = s.bufferLock := rfl
@[simp] theorem State.drawn_lifecycle (n : Nat) : (s.drawn n).lifecycle = s.lifecycle := rfl
@[simp] theorem State.drawn_handlerAttached (n : Nat) : (s.drawn n).handlerAttached = s.handlerAttached := rfl
@[simp] theorem State.drawn_inHandler (n : Nat) : (s.drawn n).inHandler = s.inHandler := rfl
@[simp] theorem State.drawn_irqId (n : Nat) : (s.drawn n).irqId = s.irqId := rfl
@[simp] theorem State.drawn_faults (n : Nat) : (s.drawn n).faults = s.faults := rfl
@[simp] theorem State.drawn_procs (n : Nat) : (s.drawn n).procs = s.procs := rfl
@[simp] theorem State.drawn_handler (n : Nat) : (s.drawn n).handler = s.handler := rfl
@[simp] theorem State.drawn_result (n : Nat) : (s.drawn n).result = s.result := rfl
@[simp] theorem State.drawn_draws (n : Nat) : (s.drawn n).draws = s.draws + n := rfl
@[simp] theorem State.drawn_schedule (n : Nat) : (s.drawn n).schedule = s.schedule := rfl

@[simp] theorem State.returnsRead_cfg (b : Byte) : (s.returnsRead b).cfg = s.cfg := rfl
@[simp] theorem State.returnsRead_txHold (b : Byte) : (s.returnsRead b).txHold = s.txHold := rfl
@[simp] theorem State.returnsRead_rxFifo (b : Byte) : (s.returnsRead b).rxFifo = s.rxFifo := rfl
@[simp] theorem State.returnsRead_lcr (b : Byte) : (s.returnsRead b).lcr = s.lcr := rfl
@[simp] theorem State.returnsRead_dll (b : Byte) : (s.returnsRead b).dll = s.dll := rfl
@[simp] theorem State.returnsRead_dlh (b : Byte) : (s.returnsRead b).dlh = s.dlh := rfl
@[simp] theorem State.returnsRead_ier (b : Byte) : (s.returnsRead b).ier = s.ier := rfl
@[simp] theorem State.returnsRead_mode (b : Byte) : (s.returnsRead b).mode = s.mode := rfl
@[simp] theorem State.returnsRead_txLine (b : Byte) : (s.returnsRead b).txLine = s.txLine := rfl
@[simp] theorem State.returnsRead_rxLine (b : Byte) : (s.returnsRead b).rxLine = s.rxLine := rfl
@[simp] theorem State.returnsRead_txCounter (b : Byte) : (s.returnsRead b).txCounter = s.txCounter := rfl
@[simp] theorem State.returnsRead_storage (b : Byte) : (s.returnsRead b).storage = s.storage := rfl
@[simp] theorem State.returnsRead_readCursor (b : Byte) : (s.returnsRead b).readCursor = s.readCursor := rfl
@[simp] theorem State.returnsRead_writeCursor (b : Byte) : (s.returnsRead b).writeCursor = s.writeCursor := rfl
@[simp] theorem State.returnsRead_registerLock (b : Byte) : (s.returnsRead b).registerLock = s.registerLock := rfl
@[simp] theorem State.returnsRead_bufferLock (b : Byte) : (s.returnsRead b).bufferLock = s.bufferLock := rfl
@[simp] theorem State.returnsRead_lifecycle (b : Byte) : (s.returnsRead b).lifecycle = s.lifecycle := rfl
@[simp] theorem State.returnsRead_handlerAttached (b : Byte) : (s.returnsRead b).handlerAttached = s.handlerAttached := rfl
@[simp] theorem State.returnsRead_inHandler (b : Byte) : (s.returnsRead b).inHandler = s.inHandler := rfl
@[simp] theorem State.returnsRead_irqId (b : Byte) : (s.returnsRead b).irqId = s.irqId := rfl
@[simp] theorem State.returnsRead_faults (b : Byte) : (s.returnsRead b).faults = s.faults := rfl
@[simp] theorem State.returnsRead_procs (b : Byte) : (s.returnsRead b).procs = s.procs := rfl
@[simp] theorem State.returnsRead_handler (b : Byte) : (s.returnsRead b).handler = s.handler := rfl
@[simp] theorem State.returnsRead_result (b : Byte) : (s.returnsRead b).result = .word (readResult (Config.freeUpper s.draws) b) := rfl
@[simp] theorem State.returnsRead_draws (b : Byte) : (s.returnsRead b).draws = s.draws + 1 := rfl
@[simp] theorem State.returnsRead_schedule (b : Byte) : (s.returnsRead b).schedule = s.schedule := rfl

@[simp] theorem State.unmappedAccess_cfg : (s.unmappedAccess).cfg = s.cfg := rfl
@[simp] theorem State.unmappedAccess_txHold : (s.unmappedAccess).txHold = s.txHold := rfl
@[simp] theorem State.unmappedAccess_rxFifo : (s.unmappedAccess).rxFifo = s.rxFifo := rfl
@[simp] theorem State.unmappedAccess_lcr : (s.unmappedAccess).lcr = s.lcr := rfl
@[simp] theorem State.unmappedAccess_dll : (s.unmappedAccess).dll = s.dll := rfl
@[simp] theorem State.unmappedAccess_dlh : (s.unmappedAccess).dlh = s.dlh := rfl
@[simp] theorem State.unmappedAccess_ier : (s.unmappedAccess).ier = s.ier := rfl
@[simp] theorem State.unmappedAccess_mode : (s.unmappedAccess).mode = s.mode := rfl
@[simp] theorem State.unmappedAccess_txLine : (s.unmappedAccess).txLine = s.txLine := rfl
@[simp] theorem State.unmappedAccess_rxLine : (s.unmappedAccess).rxLine = s.rxLine := rfl
@[simp] theorem State.unmappedAccess_txCounter : (s.unmappedAccess).txCounter = s.txCounter := rfl
@[simp] theorem State.unmappedAccess_storage : (s.unmappedAccess).storage = s.storage := rfl
@[simp] theorem State.unmappedAccess_readCursor : (s.unmappedAccess).readCursor = s.readCursor := rfl
@[simp] theorem State.unmappedAccess_writeCursor : (s.unmappedAccess).writeCursor = s.writeCursor := rfl
@[simp] theorem State.unmappedAccess_registerLock : (s.unmappedAccess).registerLock = s.registerLock := rfl
@[simp] theorem State.unmappedAccess_bufferLock : (s.unmappedAccess).bufferLock = s.bufferLock := rfl
@[simp] theorem State.unmappedAccess_lifecycle : (s.unmappedAccess).lifecycle = s.lifecycle := rfl
@[simp] theorem State.unmappedAccess_handlerAttached : (s.unmappedAccess).handlerAttached = s.handlerAttached := rfl
@[simp] theorem State.unmappedAccess_inHandler : (s.unmappedAccess).inHandler = s.inHandler := rfl
@[simp] theorem State.unmappedAccess_irqId : (s.unmappedAccess).irqId = s.irqId := rfl
@[simp] theorem State.unmappedAccess_faults : (s.unmappedAccess).faults = s.faults.add .unmappedAccess := rfl
@[simp] theorem State.unmappedAccess_procs : (s.unmappedAccess).procs = s.procs := rfl
@[simp] theorem State.unmappedAccess_handler : (s.unmappedAccess).handler = s.handler := rfl
@[simp] theorem State.unmappedAccess_result : (s.unmappedAccess).result = .raised .ioFault := rfl
@[simp] theorem State.unmappedAccess_draws : (s.unmappedAccess).draws = s.draws := rfl
@[simp] theorem State.unmappedAccess_schedule : (s.unmappedAccess).schedule = s.schedule := rfl

@[simp] theorem State.setSeq_cfg (k : Nat) (q : OpSeq) : (s.setSeq k q).cfg = s.cfg := rfl
@[simp] theorem State.setSeq_txHold (k : Nat) (q : OpSeq) : (s.setSeq k q).txHold = s.txHold := rfl
@[simp] theorem State.setSeq_rxFifo (k : Nat) (q : OpSeq) : (s.setSeq k q).rxFifo = s.rxFifo := rfl
@[simp] theorem State.setSeq_lcr (k : Nat) (q : OpSeq) : (s.setSeq k q).lcr = s.lcr := rfl
@[simp] theorem State.setSeq_dll (k : Nat) (q : OpSeq) : (s.setSeq k q).dll = s.dll := rfl
@[simp] theorem State.setSeq_dlh (k : Nat) (q : OpSeq) : (s.setSeq k q).dlh = s.dlh := rfl
@[simp] theorem State.setSeq_ier (k : Nat) (q : OpSeq) : (s.setSeq k q).ier = s.ier := rfl
@[simp] theorem State.setSeq_mode (k : Nat) (q : OpSeq) : (s.setSeq k q).mode = s.mode := rfl
@[simp] theorem State.setSeq_txLine (k : Nat) (q : OpSeq) : (s.setSeq k q).txLine = s.txLine := rfl
@[simp] theorem State.setSeq_rxLine (k : Nat) (q : OpSeq) : (s.setSeq k q).rxLine = s.rxLine := rfl
@[simp] theorem State.setSeq_txCounter (k : Nat) (q : OpSeq) : (s.setSeq k q).txCounter = s.txCounter := rfl
@[simp] theorem State.setSeq_storage (k : Nat) (q : OpSeq) : (s.setSeq k q).storage = s.storage := rfl
@[simp] theorem State.setSeq_readCursor (k : Nat) (q : OpSeq) : (s.setSeq k q).readCursor = s.readCursor := rfl
@[simp] theorem State.setSeq_writeCursor (k : Nat) (q : OpSeq) : (s.setSeq k q).writeCursor = s.writeCursor := rfl
@[simp] theorem State.setSeq_registerLock (k : Nat) (q : OpSeq) : (s.setSeq k q).registerLock = s.registerLock := rfl
@[simp] theorem State.setSeq_bufferLock (k : Nat) (q : OpSeq) : (s.setSeq k q).bufferLock = s.bufferLock := rfl
@[simp] theorem State.setSeq_lifecycle (k : Nat) (q : OpSeq) : (s.setSeq k q).lifecycle = s.lifecycle := rfl
@[simp] theorem State.setSeq_handlerAttached (k : Nat) (q : OpSeq) : (s.setSeq k q).handlerAttached = s.handlerAttached := rfl
@[simp] theorem State.setSeq_inHandler (k : Nat) (q : OpSeq) : (s.setSeq k q).inHandler = s.inHandler := rfl
@[simp] theorem State.setSeq_irqId (k : Nat) (q : OpSeq) : (s.setSeq k q).irqId = s.irqId := rfl
@[simp] theorem State.setSeq_faults (k : Nat) (q : OpSeq) : (s.setSeq k q).faults = s.faults := rfl
@[simp] theorem State.setSeq_procs (k : Nat) (q : OpSeq) : (s.setSeq k q).procs = s.procs.modify k (fun p => { p with seq := some q }) := rfl
@[simp] theorem State.setSeq_handler (k : Nat) (q : OpSeq) : (s.setSeq k q).handler = s.handler := rfl
@[simp] theorem State.setSeq_result (k : Nat) (q : OpSeq) : (s.setSeq k q).result = s.result := rfl
@[simp] theorem State.setSeq_draws (k : Nat) (q : OpSeq) : (s.setSeq k q).draws = s.draws := rfl
@[simp] theorem State.setSeq_schedule (k : Nat) (q : OpSeq) : (s.setSeq k q).schedule = s.schedule := rfl

@[simp] theorem State.endOp_cfg (k : Nat) (r : Result) : (s.endOp k r).cfg = s.cfg := rfl
@[simp] theorem State.endOp_txHold (k : Nat) (r : Result) : (s.endOp k r).txHold = s.txHold := rfl
@[simp] theorem State.endOp_rxFifo (k : Nat) (r : Result) : (s.endOp k r).rxFifo = s.rxFifo := rfl
@[simp] theorem State.endOp_lcr (k : Nat) (r : Result) : (s.endOp k r).lcr = s.lcr := rfl
@[simp] theorem State.endOp_dll (k : Nat) (r : Result) : (s.endOp k r).dll = s.dll := rfl
@[simp] theorem State.endOp_dlh (k : Nat) (r : Result) : (s.endOp k r).dlh = s.dlh := rfl
@[simp] theorem State.endOp_ier (k : Nat) (r : Result) : (s.endOp k r).ier = s.ier := rfl
@[simp] theorem State.endOp_mode (k : Nat) (r : Result) : (s.endOp k r).mode = s.mode := rfl
@[simp] theorem State.endOp_txLine (k : Nat) (r : Result) : (s.endOp k r).txLine = s.txLine := rfl
@[simp] theorem State.endOp_rxLine (k : Nat) (r : Result) : (s.endOp k r).rxLine = s.rxLine := rfl
@[simp] theorem State.endOp_txCounter (k : Nat) (r : Result) : (s.endOp k r).txCounter = s.txCounter := rfl
@[simp] theorem State.endOp_storage (k : Nat) (r : Result) : (s.endOp k r).storage = s.storage := rfl
@[simp] theorem State.endOp_readCursor (k : Nat) (r : Result) : (s.endOp k r).readCursor = s.readCursor := rfl
@[simp] theorem State.endOp_writeCursor (k : Nat) (r : Result) : (s.endOp k r).writeCursor = s.writeCursor := rfl
@[simp] theorem State.endOp_registerLock (k : Nat) (r : Result) : (s.endOp k r).registerLock = s.registerLock := rfl
@[simp] theorem State.endOp_bufferLock (k : Nat) (r : Result) : (s.endOp k r).bufferLock = s.bufferLock := rfl
@[simp] theorem State.endOp_lifecycle (k : Nat) (r : Result) : (s.endOp k r).lifecycle = s.lifecycle := rfl
@[simp] theorem State.endOp_handlerAttached (k : Nat) (r : Result) : (s.endOp k r).handlerAttached = s.handlerAttached := rfl
@[simp] theorem State.endOp_inHandler (k : Nat) (r : Result) : (s.endOp k r).inHandler = s.inHandler := rfl
@[simp] theorem State.endOp_irqId (k : Nat) (r : Result) : (s.endOp k r).irqId = s.irqId := rfl
@[simp] theorem State.endOp_faults (k : Nat) (r : Result) : (s.endOp k r).faults = s.faults := rfl
@[simp] theorem State.endOp_procs (k : Nat) (r : Result) : (s.endOp k r).procs = s.procs.modify k (fun _ => { seq := none, last := some r }) := rfl
@[simp] theorem State.endOp_handler (k : Nat) (r : Result) : (s.endOp k r).handler = s.handler := rfl
@[simp] theorem State.endOp_result (k : Nat) (r : Result) : (s.endOp k r).result = s.result := rfl
@[simp] theorem State.endOp_draws (k : Nat) (r : Result) : (s.endOp k r).draws = s.draws := rfl
@[simp] theorem State.endOp_schedule (k : Nat) (r : Result) : (s.endOp k r).schedule = s.schedule := rfl

@[simp] theorem State.setRegisterLock_cfg (a : Option Agent) : (s.setRegisterLock a).cfg = s.cfg := rfl
@[simp] theorem State.setRegisterLock_txHold (a : Option Agent) : (s.setRegisterLock a).txHold = s.txHold := rfl
@[simp] theorem State.setRegisterLock_rxFifo (a : Option Agent) : (s.setRegisterLock a).rxFifo = s.rxFifo := rfl
@[simp] theorem State.setRegisterLock_lcr (a : Option Agent) : (s.setRegisterLock a).lcr = s.lcr := rfl
@[simp] theorem State.setRegisterLock_dll (a : Option Agent) : (s.setRegisterLock a).dll = s.dll := rfl
@[simp] theorem State.setRegisterLock_dlh (a : Option Agent) : (s.setRegisterLock a).dlh = s.dlh := rfl
@[simp] theorem State.setRegisterLock_ier (a : Option Agent) : (s.setRegisterLock a).ier = s.ier := rfl
@[simp] theorem State.setRegisterLock_mode (a : Option Agent) : (s.setRegisterLock a).mode = s.mode := rfl
@[simp] theorem State.setRegisterLock_txLine (a : Option Agent) : (s.setRegisterLock a).txLine = s.txLine := rfl
@[simp] theorem State.setRegisterLock_rxLine (a : Option Agent) : (s.setRegisterLock a).rxLine = s.rxLine := rfl
@[simp] theorem State.setRegisterLock_txCounter (a : Option Agent) : (s.setRegisterLock a).txCounter = s.txCounter := rfl
@[simp] theorem State.setRegisterLock_storage (a : Option Agent) : (s.setRegisterLock a).storage = s.storage := rfl
@[simp] theorem State.setRegisterLock_readCursor (a : Option Agent) : (s.setRegisterLock a).readCursor = s.readCursor := rfl
@[simp] theorem State.setRegisterLock_writeCursor (a : Option Agent) : (s.setRegisterLock a).writeCursor = s.writeCursor := rfl
@[simp] theorem State.setRegisterLock_registerLock (a : Option Agent) : (s.setRegisterLock a).registerLock = a := rfl
@[simp] theorem State.setRegisterLock_bufferLock (a : Option Agent) : (s.setRegisterLock a).bufferLock = s.bufferLock := rfl
@[simp] theorem State.setRegisterLock_lifecycle (a : Option Agent) : (s.setRegisterLock a).lifecycle = s.lifecycle := rfl
@[simp] theorem State.setRegisterLock_handlerAttached (a : Option Agent) : (s.setRegisterLock a).handlerAttached = s.handlerAttached := rfl
@[simp] theorem State.setRegisterLock_inHandler (a : Option Agent) : (s.setRegisterLock a).inHandler = s.inHandler := rfl
@[simp] theorem State.setRegisterLock_irqId (a : Option Agent) : (s.setRegisterLock a).irqId = s.irqId := rfl
@[simp] theorem State.setRegisterLock_faults (a : Option Agent) : (s.setRegisterLock a).faults = s.faults := rfl
@[simp] theorem State.setRegisterLock_procs (a : Option Agent) : (s.setRegisterLock a).procs = s.procs := rfl
@[simp] theorem State.setRegisterLock_handler (a : Option Agent) : (s.setRegisterLock a).handler = s.handler := rfl
@[simp] theorem State.setRegisterLock_result (a : Option Agent) : (s.setRegisterLock a).result = s.result := rfl
@[simp] theorem State.setRegisterLock_draws (a : Option Agent) : (s.setRegisterLock a).draws = s.draws := rfl
@[simp] theorem State.setRegisterLock_schedule (a : Option Agent) : (s.setRegisterLock a).schedule = s.schedule := rfl

@[simp] theorem State.setBufferLock_cfg (a : Option Agent) : (s.setBufferLock a).cfg = s.cfg := rfl
@[simp] theorem State.setBufferLock_txHold (a : Option Agent) : (s.setBufferLock a).txHold = s.txHold := rfl
@[simp] theorem State.setBufferLock_rxFifo (a : Option Agent) : (s.setBufferLock a).rxFifo = s.rxFifo := rfl
@[simp] theorem State.setBufferLock_lcr (a : Option Agent) : (s.setBufferLock a).lcr = s.lcr := rfl
@[simp] theorem State.setBufferLock_dll (a : Option Agent) : (s.setBufferLock a).dll = s.dll := rfl
@[simp] theorem State.setBufferLock_dlh (a : Option Agent) : (s.setBufferLock a).dlh = s.dlh := rfl
@[simp] theorem State.setBufferLock_ier (a : Option Agent) : (s.setBufferLock a).ier = s.ier := rfl
@[simp] theorem State.setBufferLock_mode (a : Option Agent) : (s.setBufferLock a).mode = s.mode := rfl
@[simp] theorem State.setBufferLock_txLine (a : Option Agent) : (s.setBufferLock a).txLine = s.txLine := rfl
@[simp] theorem State.setBufferLock_rxLine (a : Option Agent) : (s.setBufferLock a).rxLine = s.rxLine := rfl
@[simp] theorem State.setBufferLock_txCounter (a : Option Agent) : (s.setBufferLock a).txCounter = s.txCounter := rfl
@[simp] theorem State.setBufferLock_storage (a : Option Agent) : (s.setBufferLock a).storage = s.storage := rfl
@[simp] theorem State.setBufferLock_readCursor (a : Option Agent) : (s.setBufferLock a).readCursor = s.readCursor := rfl
@[simp] theorem State.setBufferLock_writeCursor (a : Option Agent) : (s.setBufferLock a).writeCursor = s.writeCursor := rfl
@[simp] theorem State.setBufferLock_registerLock (a : Option Agent) : (s.setBufferLock a).registerLock = s.registerLock := rfl
@[simp] theorem State.setBufferLock_bufferLock (a : Option Agent) : (s.setBufferLock a).bufferLock = a := rfl
@[simp] theorem State.setBufferLock_lifecycle (a : Option Agent) : (s.setBufferLock a).lifecycle = s.lifecycle := rfl
@[simp] theorem State.setBufferLock_handlerAttached (a : Option Agent) : (s.setBufferLock a).handlerAttached = s.handlerAttached := rfl
@[simp] theorem State.setBufferLock_inHandler (a : Option Agent) : (s.setBufferLock a).inHandler = s.inHandler := rfl
@[simp] theorem State.setBufferLock_irqId (a : Option Agent) : (s.setBufferLock a).irqId = s.irqId := rfl
@[simp] theorem State.setBufferLock_faults (a : Option Agent) : (s.setBufferLock a).faults = s.faults := rfl
@[simp] theorem State.setBufferLock_procs (a : Option Agent) : (s.setBufferLock a).procs = s.procs := rfl
@[simp] theorem State.setBufferLock_handler (a : Option Agent) : (s.setBufferLock a).handler = s.handler := rfl
@[simp] theorem State.setBufferLock_result (a : Option Agent) : (s.setBufferLock a).result = s.result := rfl
@[simp] theorem State.setBufferLock_draws (a : Option Agent) : (s.setBufferLock a).draws = s.draws := rfl
@[simp] theorem State.setBufferLock_schedule (a : Option Agent) : (s.setBufferLock a).schedule = s.schedule := rfl

@[simp] theorem State.enqueue_cfg (b : Byte) : (s.enqueue b).cfg = s.cfg := rfl
@[simp] theorem State.enqueue_txHold (b : Byte) : (s.enqueue b).txHold = s.txHold := rfl
@[simp] theorem State.enqueue_rxFifo (b : Byte) : (s.enqueue b).rxFifo = s.rxFifo := rfl
@[simp] theorem State.enqueue_lcr (b : Byte) : (s.enqueue b).lcr = s.lcr := rfl
@[simp] theorem State.enqueue_dll (b : Byte) : (s.enqueue b).dll = s.dll := rfl
@[simp] theorem State.enqueue_dlh (b : Byte) : (s.enqueue b).dlh = s.dlh := rfl
@[simp] theorem State.enqueue_ier (b : Byte) : (s.enqueue b).ier = s.ier := rfl
@[simp] theorem State.enqueue_mode (b : Byte) : (s.enqueue b).mode = s.mode := rfl
@[simp] theorem State.enqueue_txLine (b : Byte) : (s.enqueue b).txLine = s.txLine := rfl
@[simp] theorem State.enqueue_rxLine (b : Byte) : (s.enqueue b).rxLine = s.rxLine := rfl
@[simp] theorem State.enqueue_txCounter (b : Byte) : (s.enqueue b).txCounter = s.txCounter := rfl
@[simp] theorem State.enqueue_storage (b : Byte) : (s.enqueue b).storage = s.storage.set s.writeCursor b := rfl
@[simp] theorem State.enqueue_readCursor (b : Byte) : (s.enqueue b).readCursor = s.readCursor := rfl
@[simp] theorem State.enqueue_writeCursor (b : Byte) : (s.enqueue b).writeCursor = (s.writeCursor + 1) % s.cfg.capacity := rfl
@[simp] theorem State.enqueue_registerLock (b : Byte) : (s.enqueue b).registerLock = s.registerLock := rfl
@[simp] theorem State.enqueue_bufferLock (b : Byte) : (s.enqueue b).bufferLock = s.bufferLock := rfl
@[simp] theorem State.enqueue_lifecycle (b : Byte) : (s.enqueue b).lifecycle = s.lifecycle := rfl
@[simp] theorem State.enqueue_handlerAttached (b : Byte) : (s.enqueue b).handlerAttached = s.handlerAttached := rfl
@[simp] theorem State.enqueue_inHandler (b : Byte) : (s.enqueue b).inHandler = s.inHandler := rfl
@[simp] theorem State.enqueue_irqId (b : Byte) : (s.enqueue b).irqId = s.irqId := rfl
@[simp] theorem State.enqueue_faults (b : Byte) : (s.enqueue b).faults = s.faults := rfl
@[simp] theorem State.enqueue_procs (b : Byte) : (s.enqueue b).procs = s.procs := rfl
@[simp] theorem State.enqueue_handler (b : Byte) : (s.enqueue b).handler = s.handler := rfl
@[simp] theorem State.enqueue_result (b : Byte) : (s.enqueue b).result = s.result := rfl
@[simp] theorem State.enqueue_draws (b : Byte) : (s.enqueue b).draws = s.draws := rfl
@[simp] theorem State.enqueue_schedule (b : Byte) : (s.enqueue b).schedule = s.schedule := rfl

@[simp] theorem State.dequeue_cfg : (s.dequeue).cfg = s.cfg := rfl
@[simp] theorem State.dequeue_txHold : (s.dequeue).txHold = s.txHold := rfl
@[simp] theorem State.dequeue_rxFifo : (s.dequeue).rxFifo = s.rxFifo := rfl
@[simp] theorem State.dequeue_lcr : (s.dequeue).lcr = s.lcr := rfl
@[simp] theorem State.dequeue_dll : (s.dequeue).dll = s.dll := rfl
@[simp] theorem State.dequeue_dlh : (s.dequeue).dlh = s.dlh := rfl
@[simp] theorem State.dequeue_ier : (s.dequeue).ier = s.ier := rfl
@[simp] theorem State.dequeue_mode : (s.dequeue).mode = s.mode := rfl
@[simp] theorem State.dequeue_txLine : (s.dequeue).txLine = s.txLine := rfl
@[simp] theorem State.dequeue_rxLine : (s.dequeue).rxLine = s.rxLine := rfl
@[simp] theorem State.dequeue_txCounter : (s.dequeue).txCounter = s.txCounter := rfl
@[simp] theorem State.dequeue_storage : (s.dequeue).storage = s.storage := rfl
@[simp] theorem State.dequeue_readCursor : (s.dequeue).readCursor = (s.readCursor + 1) % s.cfg.capacity := rfl
@[simp] theorem State.dequeue_writeCursor : (s.dequeue).writeCursor = s.writeCursor := rfl
@[simp] theorem State.dequeue_registerLock : (s.dequeue).registerLock = s.registerLock := rfl
@[simp] theorem State.dequeue_bufferLock : (s.dequeue).bufferLock = s.bufferLock := rfl
@[simp] theorem State.dequeue_lifecycle : (s.dequeue).lifecycle = s.lifecycle := rfl
@[simp] theorem State.dequeue_handlerAttached : (s.dequeue).handlerAttached = s.handlerAttached := rfl
@[simp] theorem State.dequeue_inHandler : (s.dequeue).inHandler = s.inHandler := rfl
@[simp] theorem State.dequeue_irqId : (s.dequeue).irqId = s.irqId := rfl
@[simp] theorem State.dequeue_faults : (s.dequeue).faults = s.faults := rfl
@[simp] theorem State.dequeue_procs : (s.dequeue).procs = s.procs := rfl
@[simp] theorem State.dequeue_handler : (s.dequeue).handler = s.handler := rfl
@[simp] theorem State.dequeue_result : (s.dequeue).result = s.result := rfl
@[simp] theorem State.dequeue_draws : (s.dequeue).draws = s.draws := rfl
@[simp] theorem State.dequeue_schedule : (s.dequeue).schedule = s.schedule := rfl

@[simp] theorem State.countByte_cfg : (s.countByte).cfg = s.cfg := rfl
@[simp] theorem State.countByte_txHold : (s.countByte).txHold = s.txHold := rfl
@[simp] theorem State.countByte_rxFifo : (s.countByte).rxFifo = s.rxFifo := rfl
@[simp] theorem State.countByte_lcr : (s.countByte).lcr = s.lcr := rfl
@[simp] theorem State.countByte_dll : (s.countByte).dll = s.dll := rfl
@[simp] theorem State.countByte_dlh : (s.countByte).dlh = s.dlh := rfl
@[simp] theorem State.countByte_ier : (s.countByte).ier = s.ier := rfl
@[simp] theorem State.countByte_mode : (s.countByte).mode = s.mode := rfl
@[simp] theorem State.countByte_txLine : (s.countByte).txLine = s.txLine := rfl
@[simp] theorem State.countByte_rxLine : (s.countByte).rxLine = s.rxLine := rfl
@[simp] theorem State.countByte_txCounter : (s.countByte).txCounter = (s.txCounter + 1) % 2 ^ s.cfg.cntBits := rfl
@[simp] theorem State.countByte_storage : (s.countByte).storage = s.storage := rfl
@[simp] theorem State.countByte_readCursor : (s.countByte).readCursor = s.readCursor := rfl
@[simp] theorem State.countByte_writeCursor : (s.countByte).writeCursor = s.writeCursor := rfl
@[simp] theorem State.countByte_registerLock : (s.countByte).registerLock = s.registerLock := rfl
@[simp] theorem State.countByte_bufferLock : (s.countByte).bufferLock = s.bufferLock := rfl
@[simp] theorem State.countByte_lifecycle : (s.countByte).lifecycle = s.lifecycle := rfl
@[simp] theorem State.countByte_handlerAttached : (s.countByte).handlerAttached = s.handlerAttached := rfl
@[simp] theorem State.countByte_inHandler : (s.countByte).inHandler = s.inHandler := rfl
@[simp] theorem State.countByte_irqId : (s.countByte).irqId = s.irqId := rfl
@[simp] theorem State.countByte_faults : (s.countByte).faults = s.faults := rfl
@[simp] theorem State.countByte_procs : (s.countByte).procs = s.procs := rfl
@[simp] theorem State.countByte_handler : (s.countByte).handler = s.handler := rfl
@[simp] theorem State.countByte_result : (s.countByte).result = s.result := rfl
@[simp] theorem State.countByte_draws : (s.countByte).draws = s.draws := rfl
@[simp] theorem State.countByte_schedule : (s.countByte).schedule = s.schedule := rfl

@[simp] theorem State.interruptEntry_cfg : (s.interruptEntry).cfg = s.cfg := rfl
@[simp] theorem State.interruptEntry_txHold : (s.interruptEntry).txHold = s.txHold := rfl
@[simp] theorem State.interruptEntry_rxFifo : (s.interruptEntry).rxFifo = s.rxFifo := rfl
@[simp] theorem State.interruptEntry_lcr : (s.interruptEntry).lcr = s.lcr := rfl
@[simp] theorem State.interruptEntry_dll : (s.interruptEntry).dll = s.dll := rfl
@[simp] theorem State.interruptEntry_dlh : (s.interruptEntry).dlh = s.dlh := rfl
@[simp] theorem State.interruptEntry_ier : (s.interruptEntry).ier = s.ier := rfl
@[simp] theorem State.interruptEntry_mode : (s.interruptEntry).mode = s.mode := rfl
@[simp] theorem State.interruptEntry_txLine : (s.interruptEntry).txLine = s.txLine := rfl
@[simp] theorem State.interruptEntry_rxLine : (s.interruptEntry).rxLine = s.rxLine := rfl
@[simp] theorem State.interruptEntry_txCounter : (s.interruptEntry).txCounter = s.txCounter := rfl
@[simp] theorem State.interruptEntry_storage : (s.interruptEntry).storage = s.storage := rfl
@[simp] theorem State.interruptEntry_readCursor : (s.interruptEntry).readCursor = s.readCursor := rfl
@[simp] theorem State.interruptEntry_writeCursor : (s.interruptEntry).writeCursor = s.writeCursor := rfl
@[simp] theorem State.interruptEntry_registerLock : (s.interruptEntry).registerLock = s.registerLock := rfl
@[simp] theorem State.interruptEntry_bufferLock : (s.interruptEntry).bufferLock = s.bufferLock := rfl
@[simp] theorem State.interruptEntry_lifecycle : (s.interruptEntry).lifecycle = s.lifecycle := rfl
@[simp] theorem State.interruptEntry_handlerAttached : (s.interruptEntry).handlerAttached = s.handlerAttached := rfl
@[simp] theorem State.interruptEntry_inHandler : (s.interruptEntry).inHandler = true := rfl
@[simp] theorem State.interruptEntry_irqId : (s.interruptEntry).irqId = s.irqId := rfl
@[simp] theorem State.interruptEntry_faults : (s.interruptEntry).faults = s.faults := rfl
@[simp] theorem State.interruptEntry_procs : (s.interruptEntry).procs = s.procs := rfl
@[simp] theorem State.interruptEntry_handler : (s.interruptEntry).handler = some .recv := rfl
@[simp] theorem State.interruptEntry_result : (s.interruptEntry).result = s.result := rfl
@[simp] theorem State.interruptEntry_draws : (s.interruptEntry).draws = s.draws := rfl
@[simp] theorem State.interruptEntry_schedule : (s.interruptEntry).schedule = s.schedule := rfl

@[simp] theorem State.interruptReturn_cfg : (s.interruptReturn).cfg = s.cfg := rfl
@[simp] theorem State.interruptReturn_txHold : (s.interruptReturn).txHold = s.txHold := rfl
@[simp] theorem State.interruptReturn_rxFifo : (s.interruptReturn).rxFifo = s.rxFifo := rfl
@[simp] theorem State.interruptReturn_lcr : (s.interruptReturn).lcr = s.lcr := rfl
@[simp] theorem State.interruptReturn_dll : (s.interruptReturn).dll = s.dll := rfl
@[simp] theorem State.interruptReturn_dlh : (s.interruptReturn).dlh = s.dlh := rfl
@[simp] theorem State.interruptReturn_ier : (s.interruptReturn).ier = s.ier := rfl
@[simp] theorem State.interruptReturn_mode : (s.interruptReturn).mode = s.mode := rfl
@[simp] theorem State.interruptReturn_txLine : (s.interruptReturn).txLine = s.txLine := rfl
@[simp] theorem State.interruptReturn_rxLine : (s.interruptReturn).rxLine = s.rxLine := rfl
@[simp] theorem State.interruptReturn_txCounter : (s.interruptReturn).txCounter = s.txCounter := rfl
@[simp] theorem State.interruptReturn_storage : (s.interruptReturn).storage = s.storage := rfl
@[simp] theorem State.interruptReturn_readCursor : (s.interruptReturn).readCursor = s.readCursor := rfl
@[simp] theorem State.interruptReturn_writeCursor : (s.interruptReturn).writeCursor = s.writeCursor := rfl
@[simp] theorem State.interruptReturn_registerLock : (s.interruptReturn).registerLock = s.registerLock := rfl
@[simp] theorem State.interruptReturn_bufferLock : (s.interruptReturn).bufferLock = s.bufferLock := rfl
@[simp] theorem State.interruptReturn_lifecycle : (s.interruptReturn).lifecycle = s.lifecycle := rfl
@[simp] theorem State.interruptReturn_handlerAttached : (s.interruptReturn).handlerAttached = s.handlerAttached := rfl
@[simp] theorem State.interruptReturn_inHandler : (s.interruptReturn).inHandler = false := rfl
@[simp] theorem State.interruptReturn_irqId : (s.interruptReturn).irqId = s.irqId := rfl
@[simp] theorem State.interruptReturn_faults : (s.interruptReturn).faults = s.faults := rfl
@[simp] theorem State.interruptReturn_procs : (s.interruptReturn).procs = s.procs := rfl
@[simp] theorem State.interruptReturn_handler : (s.interruptReturn).handler = none := rfl
@[simp] theorem State.interruptReturn_result : (s.interruptReturn).result = s.result := rfl
@[simp] theorem State.interruptReturn_draws : (s.interruptReturn).draws = s.draws := rfl
@[simp] theorem State.interruptReturn_schedule : (s.interruptReturn).schedule = s.schedule := rfl

@[simp] theorem State.setHandler_cfg (q : HandlerSeq) : (s.setHandler q).cfg = s.cfg := rfl
@[simp] theorem State.setHandler_txHold (q : HandlerSeq) : (s.setHandler q).txHold = s.txHold := rfl
@[simp] theorem State.setHandler_rxFifo (q : HandlerSeq) : (s.setHandler q).rxFifo = s.rxFifo := rfl
@[simp] theorem State.setHandler_lcr (q : HandlerSeq) : (s.setHandler q).lcr = s.lcr := rfl
@[simp] theorem State.setHandler_dll (q : HandlerSeq) : (s.setHandler q).dll = s.dll := rfl
@[simp] theorem State.setHandler_dlh (q : HandlerSeq) : (s.setHandler q).dlh = s.dlh := rfl
@[simp] theorem State.setHandler_ier (q : HandlerSeq) : (s.setHandler q).ier = s.ier := rfl
@[simp] theorem State.setHandler_mode (q : HandlerSeq) : (s.setHandler q).mode = s.mode := rfl
@[simp] theorem State.setHandler_txLine (q : HandlerSeq) : (s.setHandler q).txLine = s.txLine := rfl
@[simp] theorem State.setHandler_rxLine (q : HandlerSeq) : (s.setHandler q).rxLine = s.rxLine := rfl
@[simp] theorem State.setHandler_txCounter (q : HandlerSeq) : (s.setHandler q).txCounter = s.txCounter := rfl
@[simp] theorem State.setHandler_storage (q : HandlerSeq) : (s.setHandler q).storage = s.storage := rfl
@[simp] theorem State.setHandler_readCursor (q : HandlerSeq) : (s.setHandler q).readCursor = s.readCursor := rfl
@[simp] theorem State.setHandler_writeCursor (q : HandlerSeq) : (s.setHandler q).writeCursor = s.writeCursor := rfl
@[simp] theorem State.setHandler_registerLock (q : HandlerSeq) : (s.setHandler q).registerLock = s.registerLock := rfl
@[simp] theorem State.setHandler_bufferLock (q : HandlerSeq) : (s.setHandler q).bufferLock = s.bufferLock := rfl
@[simp] theorem State.setHandler_lifecycle (q : HandlerSeq) : (s.setHandler q).lifecycle = s.lifecycle := rfl
@[simp] theorem State.setHandler_handlerAttached (q : HandlerSeq) : (s.setHandler q).handlerAttached = s.handlerAttached := rfl
@[simp] theorem State.setHandler_inHandler (q : HandlerSeq) : (s.setHandler q).inHandler = s.inHandler := rfl
@[simp] theorem State.setHandler_irqId (q : HandlerSeq) : (s.setHandler q).irqId = s.irqId := rfl
@[simp] theorem State.setHandler_faults (q : HandlerSeq) : (s.setHandler q).faults = s.faults := rfl
@[simp] theorem State.setHandler_procs (q : HandlerSeq) : (s.setHandler q).procs = s.procs := rfl
@[simp] theorem State.setHandler_handler (q : HandlerSeq) : (s.setHandler q).handler = some q := rfl
@[simp] theorem State.setHandler_result (q : HandlerSeq) : (s.setHandler q).result = s.result := rfl
@[simp] theorem State.setHandler_draws (q : HandlerSeq) : (s.setHandler q).draws = s.draws := rfl
@[simp] theorem State.setHandler_schedule (q : HandlerSeq) : (s.setHandler q).schedule = s.schedule := rfl

@[simp] theorem State.setLifecycle_cfg (l : Lifecycle) : (s.setLifecycle l).cfg = s.cfg := rfl
@[simp] theorem State.setLifecycle_txHold (l : Lifecycle) : (s.setLifecycle l).txHold = s.txHold := rfl
@[simp] theorem State.setLifecycle_rxFifo (l : Lifecycle) : (s.setLifecycle l).rxFifo = s.rxFifo := rfl
@[simp] theorem State.setLifecycle_lcr (l : Lifecycle) : (s.setLifecycle l).lcr = s.lcr := rfl
@[simp] theorem State.setLifecycle_dll (l : Lifecycle) : (s.setLifecycle l).dll = s.dll := rfl
@[simp] theorem State.setLifecycle_dlh (l : Lifecycle) : (s.setLifecycle l).dlh = s.dlh := rfl
@[simp] theorem State.setLifecycle_ier (l : Lifecycle) : (s.setLifecycle l).ier = s.ier := rfl
@[simp] theorem State.setLifecycle_mode (l : Lifecycle) : (s.setLifecycle l).mode = s.mode := rfl
@[simp] theorem State.setLifecycle_txLine (l : Lifecycle) : (s.setLifecycle l).txLine = s.txLine := rfl
@[simp] theorem State.setLifecycle_rxLine (l : Lifecycle) : (s.setLifecycle l).rxLine = s.rxLine := rfl
@[simp] theorem State.setLifecycle_txCounter (l : Lifecycle) : (s.setLifecycle l).txCounter = s.txCounter := rfl
@[simp] theorem State.setLifecycle_storage (l : Lifecycle) : (s.setLifecycle l).storage = s.storage := rfl
@[simp] theorem State.setLifecycle_readCursor (l : Lifecycle) : (s.setLifecycle l).readCursor = s.readCursor := rfl
@[simp] theorem State.setLifecycle_writeCursor (l : Lifecycle) : (s.setLifecycle l).writeCursor = s.writeCursor := rfl
@[simp] theorem State.setLifecycle_registerLock (l : Lifecycle) : (s.setLifecycle l).registerLock = s.registerLock := rfl
@[simp] theorem State.setLifecycle_bufferLock (l : Lifecycle) : (s.setLifecycle l).bufferLock = s.bufferLock := rfl
@[simp] theorem State.setLifecycle_lifecycle (l : Lifecycle) : (s.setLifecycle l).lifecycle = l := rfl
@[simp] theorem State.setLifecycle_handlerAttached (l : Lifecycle) : (s.setLifecycle l).handlerAttached = s.handlerAttached := rfl
@[simp] theorem State.setLifecycle_inHandler (l : Lifecycle) : (s.setLifecycle l).inHandler = s.inHandler := rfl
@[simp] theorem State.setLifecycle_irqId (l : Lifecycle) : (s.setLifecycle l).irqId = s.irqId := rfl
@[simp] theorem State.setLifecycle_faults (l : Lifecycle) : (s.setLifecycle l).faults = s.faults := rfl
@[simp] theorem State.setLifecycle_procs (l : Lifecycle) : (s.setLifecycle l).procs = s.procs := rfl
@[simp] theorem State.setLifecycle_handler (l : Lifecycle) : (s.setLifecycle l).handler = s.handler := rfl
@[simp] theorem State.setLifecycle_result (l : Lifecycle) : (s.setLifecycle l).result = s.result := rfl
@[simp] theorem State.setLifecycle_draws (l : Lifecycle) : (s.setLifecycle l).draws = s.draws := rfl
@[simp] theorem State.setLifecycle_schedule (l : Lifecycle) : (s.setLifecycle l).schedule = s.schedule := rfl

@[simp] theorem State.attachHandler_cfg : (s.attachHandler).cfg = s.cfg := rfl
@[simp] theorem State.attachHandler_txHold : (s.attachHandler).txHold = s.txHold := rfl
@[simp] theorem State.attachHandler_rxFifo : (s.attachHandler).rxFifo = s.rxFifo := rfl
@[simp] theorem State.attachHandler_lcr : (s.attachHandler).lcr = s.lcr := rfl
@[simp] theorem State.attachHandler_dll : (s.attachHandler).dll = s.dll := rfl
@[simp] theorem State.attachHandler_dlh : (s.attachHandler).dlh = s.dlh := rfl
@[simp] theorem State.attachHandler_ier : (s.attachHandler).ier = s.ier := rfl
@[simp] theorem State.attachHandler_mode : (s.attachHandler).mode = s.mode := rfl
@[simp] theorem State.attachHandler_txLine : (s.attachHandler).txLine = s.txLine := rfl
@[simp] theorem State.attachHandler_rxLine : (s.attachHandler).rxLine = s.rxLine := rfl
@[simp] theorem State.attachHandler_txCounter : (s.attachHandler).txCounter = s.txCounter := rfl
@[simp] theorem State.attachHandler_storage : (s.attachHandler).storage = s.storage := rfl
@[simp] theorem State.attachHandler_readCursor : (s.attachHandler).readCursor = s.readCursor := rfl
@[simp] theorem State.attachHandler_writeCursor : (s.attachHandler).writeCursor = s.writeCursor := rfl
@[simp] theorem State.attachHandler_registerLock : (s.attachHandler).registerLock = s.registerLock := rfl
@[simp] theorem State.attachHandler_bufferLock : (s.attachHandler).bufferLock = s.bufferLock := rfl
@[simp] theorem State.attachHandler_lifecycle : (s.attachHandler).lifecycle = s.lifecycle := rfl
@[simp] theorem State.attachHandler_handlerAttached : (s.attachHandler).handlerAttached = true := rfl
@[simp] theorem State.attachHandler_inHandler : (s.attachHandler).inHandler = s.inHandler := rfl
@[simp] theorem State.attachHandler_irqId : (s.attachHandler).irqId = some s.cfg.irqId := rfl
@[simp] theorem State.attachHandler_faults : (s.attachHandler).faults = s.faults := rfl
@[simp] theorem State.attachHandler_procs : (s.attachHandler).procs = s.procs := rfl
@[simp] theorem State.attachHandler_handler : (s.attachHandler).handler = s.handler := rfl
@[simp] theorem State.attachHandler_result : (s.attachHandler).result = s.result := rfl
@[simp] theorem State.attachHandler_draws : (s.attachHandler).draws = s.draws := rfl
@[simp] theorem State.attachHandler_schedule : (s.attachHandler).schedule = s.schedule := rfl

@[simp] theorem State.scrambleUart_cfg : (s.scrambleUart).cfg = s.cfg := rfl
@[simp] theorem State.scrambleUart_txHold : (s.scrambleUart).txHold = Config.freeHold (s.draws + 5) := rfl
@[simp] theorem State.scrambleUart_rxFifo : (s.scrambleUart).rxFifo = (Config.freeBytes (s.draws + 6)).take s.cfg.rxDepth := rfl
@[simp] theorem State.scrambleUart_lcr : (s.scrambleUart).lcr = Config.freeByte s.draws := rfl
@[simp] theorem State.scrambleUart_dll : (s.scrambleUart).dll = Config.freeByte (s.draws + 1) := rfl
@[simp] theorem State.scrambleUart_dlh : (s.scrambleUart).dlh = Config.freeByte (s.draws + 2) := rfl
@[simp] theorem State.scrambleUart_ier : (s.scrambleUart).ier = Config.freeByte (s.draws + 3) := rfl
@[simp] theorem State.scrambleUart_mode : (s.scrambleUart).mode = Config.freeByte (s.draws + 4) := rfl
@[simp] theorem State.scrambleUart_txLine : (s.scrambleUart).txLine = s.txLine := rfl
@[simp] theorem State.scrambleUart_rxLine : (s.scrambleUart).rxLine = s.rxLine := rfl
@[simp] theorem State.scrambleUart_txCounter : (s.scrambleUart).txCounter = s.txCounter := rfl
@[simp] theorem State.scrambleUart_storage : (s.scrambleUart).storage = s.storage := rfl
@[simp] theorem State.scrambleUart_readCursor : (s.scrambleUart).readCursor = s.readCursor := rfl
@[simp] theorem State.scrambleUart_writeCursor : (s.scrambleUart).writeCursor = s.writeCursor := rfl
@[simp] theorem State.scrambleUart_registerLock : (s.scrambleUart).registerLock = s.registerLock := rfl
@[simp] theorem State.scrambleUart_bufferLock : (s.scrambleUart).bufferLock = s.bufferLock := rfl
@[simp] theorem State.scrambleUart_lifecycle : (s.scrambleUart).lifecycle = s.lifecycle := rfl
@[simp] theorem State.scrambleUart_handlerAttached : (s.scrambleUart).handlerAttached = s.handlerAttached := rfl
@[simp] theorem State.scrambleUart_inHandler : (s.scrambleUart).inHandler = s.inHandler := rfl
@[simp] theorem State.scrambleUart_irqId : (s.scrambleUart).irqId = s.irqId := rfl
@[simp] theorem State.scrambleUart_faults : (s.scrambleUart).faults = s.faults := rfl
@[simp] theorem State.scrambleUart_procs : (s.scrambleUart).procs = s.procs := rfl
@[simp] theorem State.scrambleUart_handler : (s.scrambleUart).handler = s.handler := rfl
@[simp] theorem State.scrambleUart_result : (s.scrambleUart).result = s.result := rfl
@[simp] theorem State.scrambleUart_draws : (s.scrambleUart).draws = s.draws + 7 := rfl
@[simp] theorem State.scrambleUart_schedule : (s.scrambleUart).schedule = s.schedule := rfl

@[simp] theorem State.createInstance_cfg : (s.createInstance).cfg = s.cfg := rfl
@[simp] theorem State.createInstance_txHold : (s.createInstance).txHold = s.txHold := rfl
@[simp] theorem State.createInstance_rxFifo : (s.createInstance).rxFifo = s.rxFifo := rfl
@[simp] theorem State.createInstance_lcr : (s.createInstance).lcr = s.lcr := rfl
@[simp] theorem State.createInstance_dll : (s.createInstance).dll = s.dll := rfl
@[simp] theorem State.createInstance_dlh : (s.createInstance).dlh = s.dlh := rfl
@[simp] theorem State.createInstance_ier : (s.createInstance).ier = s.ier := rfl
@[simp] theorem State.createInstance_mode : (s.createInstance).mode = s.mode := rfl
@[simp] theorem State.createInstance_txLine : (s.createInstance).txLine = s.txLine := rfl
@[simp] theorem State.createInstance_rxLine : (s.createInstance).rxLine = s.rxLine := rfl
@[simp] theorem State.createInstance_txCounter : (s.createInstance).txCounter = 0 := rfl
@[simp] theorem State.createInstance_storage : (s.createInstance).storage = (List.range s.cfg.capacity).map (fun i => Config.freeByte (s.draws + i)) := rfl
@[simp] theorem State.createInstance_readCursor : (s.createInstance).readCursor = 0 := rfl
@[simp] theorem State.createInstance_writeCursor : (s.createInstance).writeCursor = 0 := rfl
@[simp] theorem State.createInstance_registerLock : (s.createInstance).registerLock = none := rfl
@[simp] theorem State.createInstance_bufferLock : (s.createInstance).bufferLock = none := rfl
@[simp] theorem State.createInstance_lifecycle : (s.createInstance).lifecycle = s.lifecycle := rfl
@[simp] theorem State.createInstance_handlerAttached : (s.createInstance).handlerAttached = false := rfl
@[simp] theorem State.createInstance_inHandler : (s.createInstance).inHandler = false := rfl
@[simp] theorem State.createInstance_irqId : (s.createInstance).irqId = none := rfl
@[simp] theorem State.createInstance_faults : (s.createInstance).faults = FaultSet.empty := rfl
@[simp] theorem State.createInstance_procs : (s.createInstance).procs = s.procs := rfl
@[simp] theorem State.createInstance_handler : (s.createInstance).handler = none := rfl
@[simp] theorem State.createInstance_result : (s.createInstance).result = s.result := rfl
@[simp] theorem State.createInstance_draws : (s.createInstance).draws = s.draws + s.cfg.capacity := rfl
@[simp] theorem State.createInstance_schedule : (s.createInstance).schedule = s.schedule := rfl

/-- The mark of a configuration write changes nothing but the faults. -/
theorem State.markConfigWrite_eq : s.markConfigWrite = { s with faults := s.markConfigWrite.faults } := by
  unfold State.markConfigWrite; split <;> rfl

@[simp] theorem State.markConfigWrite_faults :
    s.markConfigWrite.faults = if s.extended then s.faults else s.faults.add .configOutsideExtended := by
  unfold State.markConfigWrite; split <;> rfl

@[simp] theorem State.markConfigWrite_cfg : s.markConfigWrite.cfg = s.cfg := by rw [State.markConfigWrite_eq]
@[simp] theorem State.markConfigWrite_txHold : s.markConfigWrite.txHold = s.txHold := by rw [State.markConfigWrite_eq]
@[simp] theorem State.markConfigWrite_rxFifo : s.markConfigWrite.rxFifo = s.rxFifo := by rw [State.markConfigWrite_eq]
@[simp] theorem State.markConfigWrite_lcr : s.markConfigWrite.lcr = s.lcr := by rw [State.markConfigWrite_eq]
@[simp] theorem State.markConfigWrite_dll : s.markConfigWrite.dll = s.dll := by rw [State.markConfigWrite_eq]
@[simp] theorem State.markConfigWrite_dlh : s.markConfigWrite.dlh = s.dlh := by rw [State.markConfigWrite_eq]
@[simp] theorem State.markConfigWrite_ier : s.markConfigWrite.ier = s.ier := by rw [State.markConfigWrite_eq]
@[simp] theorem State.markConfigWrite_mode : s.markConfigWrite.mode = s.mode := by rw [State.markConfigWrite_eq]
@[simp] theorem State.markConfigWrite_txLine : s.markConfigWrite.txLine = s.txLine := by rw [State.markConfigWrite_eq]
@[simp] theorem State.markConfigWrite_rxLine : s.markConfigWrite.rxLine = s.rxLine := by rw [State.markConfigWrite_eq]
@[simp] theorem State.markConfigWrite_txCounter : s.markConfigWrite.txCounter = s.txCounter := by rw [State.markConfigWrite_eq]
@[simp] theorem State.markConfigWrite_storage : s.markConfigWrite.storage = s.storage := by rw [State.markConfigWrite_eq]
@[simp] theorem State.markConfigWrite_readCursor : s.markConfigWrite.readCursor = s.readCursor := by rw [State.markConfigWrite_eq]
@[simp] theorem State.markConfigWrite_writeCursor : s.markConfigWrite.writeCursor = s.writeCursor := by rw [State.markConfigWrite_eq]
@[simp] theorem State.markConfigWrite_registerLock : s.markConfigWrite.registerLock = s.registerLock := by rw [State.markConfigWrite_eq]
@[simp] theorem State.markConfigWrite_bufferLock : s.markConfigWrite.bufferLock = s.bufferLock := by rw [State.markConfigWrite_eq]
@[simp] theorem State.markConfigWrite_lifecycle : s.markConfigWrite.lifecycle = s.lifecycle := by rw [State.markConfigWrite_eq]
@[simp] theorem State.markConfigWrite_handlerAttached : s.markConfigWrite.handlerAttached = s.handlerAttached := by rw [State.markConfigWrite_eq]
@[simp] theorem State.markConfigWrite_inHandler : s.markConfigWrite.inHandler = s.inHandler := by rw [State.markConfigWrite_eq]
@[simp] theorem State.markConfigWrite_irqId : s.markConfigWrite.irqId = s.irqId := by rw [State.markConfigWrite_eq]
@[simp] theorem State.markConfigWrite_procs : s.markConfigWrite.procs = s.procs := by rw [State.markConfigWrite_eq]
@[simp] theorem State.markConfigWrite_handler : s.markConfigWrite.handler = s.handler := by rw [State.markConfigWrite_eq]
@[simp] theorem State.markConfigWrite_result : s.markConfigWrite.result = s.result := by rw [State.markConfigWrite_eq]
@[simp] theorem State.markConfigWrite_draws : s.markConfigWrite.draws = s.draws := by rw [State.markConfigWrite_eq]
@[simp] theorem State.markConfigWrite_schedule : s.markConfigWrite.schedule = s.schedule := by rw [State.markConfigWrite_eq]

end

end Sys2Proof.Machine
end

