-- ==== Sys2Proof/Laws/Ops.lean ====
section
/-! SUPPORT. What each shared operation can do, said once. -/

namespace Sys2Proof.Machine

/-! ### Sequencing and locks -/

@[simp] theorem andThen_next (s : State) (f : State → Answer State) : andThen (.next s) f = f s := rfl

@[simp] theorem andThen_refused (r : Refusal) (f : State → Answer State) : andThen (.refused r) f = .refused r := rfl

@[simp] theorem andThen_fault (r : Fault) (f : State → Answer State) : andThen (.fault r) f = .fault r := rfl

/-- A sequence answers a next state exactly through a next state of its first part. -/
theorem andThen_eq_next {o : Answer State} {f : State → Answer State} {t : State} :
    andThen o f = .next t ↔ ∃ s, o = .next s ∧ f s = .next t := by
  cases o <;> simp

/-- A sequence faults only where a part does. -/
theorem andThen_ne_fault {o : Answer State} {f : State → Answer State} (ho : ∀ r, o ≠ .fault r)
    (hf : ∀ s r, f s ≠ .fault r) (r : Fault) : andThen o f ≠ .fault r := by
  cases o with
  | next s => exact hf s r
  | fault q => exact absurd rfl (ho q)
  | refused q => simp

/-- The critical section of a free `register_lock` (R66). -/
theorem withRegisterLock_free {s : State} (h : s.registerLock = none) (a : Agent) (body after : State → Answer State) :
    withRegisterLock a s body after =
      andThen (body (s.setRegisterLock (some a))) (fun t => after (t.setRegisterLock none)) := by
  simp [withRegisterLock, h]

/-- The critical section of `register_lock` either does nothing, on a held lock, or runs its body (R66, R68). -/
theorem withRegisterLock_eq_next {s t : State} {a : Agent} {body after : State → Answer State}
    (h : withRegisterLock a s body after = .next t) :
    (s.registerLock ≠ none ∧ t = s) ∨
    (s.registerLock = none ∧ ∃ u, body (s.setRegisterLock (some a)) = .next u ∧
      after (u.setRegisterLock none) = .next t) := by
  unfold withRegisterLock at h
  split at h
  next b hb => exact .inl ⟨by simp [hb], by cases h; rfl⟩
  next hb => exact .inr ⟨hb, andThen_eq_next.1 h⟩

/-- The critical section of a free `buffer_lock` (R69). -/
theorem withBufferLock_free {s : State} (h : s.bufferLock = none) (a : Agent) (body after : State → State) :
    withBufferLock a s body after = after ((body (s.setBufferLock (some a))).setBufferLock none) := by
  simp [withBufferLock, h]

/-- The critical section of a held `buffer_lock` has no step. -/
theorem withBufferLock_held {s : State} (h : s.bufferLock ≠ none) (a : Agent) (body after : State → State) :
    withBufferLock a s body after = s := by
  unfold withBufferLock
  split
  · rfl
  · contradiction

/-! ### Faults -/

@[simp] theorem FaultSet.has_add (fs : FaultSet) (f g : Fault) : (fs.add f).has g = (fs.has g || decide (f = g)) := by
  cases f <;> cases g <;> simp [FaultSet.add, FaultSet.has]

theorem FaultSet.subset_refl (fs : FaultSet) : fs.subset fs := fun _ h => h

theorem FaultSet.subset_add (fs : FaultSet) (f : Fault) : fs.subset (fs.add f) := by
  intro n h; simp [h]

theorem FaultSet.subset_trans {a b c : FaultSet} (h : a.subset b) (k : b.subset c) : a.subset c :=
  fun n x => k n (h n x)

/-! ### Positions -/

/-- The position of a context after another one, or itself, has moved on. -/
theorem State.seqOf_setSeq (s : State) (k m : Nat) (q : OpSeq) :
    (s.setSeq k q).seqOf m = if k = m ∧ m < s.procs.length then some q else s.seqOf m := by
  simp only [State.seqOf, State.setSeq_procs, List.getElem?_modify]
  by_cases hk : k = m
  · subst hk
    by_cases hl : k < s.procs.length
    · simp [hl]
    · simp [hl]
  · simp [hk]

/-- The position of a context after another one's operation, or its own, has ended. -/
theorem State.seqOf_endOp (s : State) (k m : Nat) (r : Result) :
    (s.endOp k r).seqOf m = if k = m then none else s.seqOf m := by
  simp only [State.seqOf, State.endOp_procs, List.getElem?_modify]
  by_cases hk : k = m
  · subst hk; cases s.procs[k]? <;> simp
  · simp [hk]

/-- A context with a position exists. -/
theorem State.lt_of_seqOf {s : State} {k : Nat} {q : OpSeq} (h : s.seqOf k = some q) : k < s.procs.length := by
  by_contra hk
  simp [State.seqOf, List.getElem?_eq_none (Nat.le_of_not_lt hk)] at h

/-- Ending an operation replaces the context's record. -/
theorem State.endOp_eq_set (s : State) (k : Nat) (r : Result) :
    s.endOp k r = { s with procs := s.procs.set k { seq := none, last := some r } } := by
  have h : s.procs.modify k (fun _ => ({ seq := none, last := some r } : Proc)) =
      s.procs.set k { seq := none, last := some r } := by
    apply List.ext_getElem?
    intro m
    rw [List.getElem?_modify, List.getElem?_set]
    by_cases hk : k = m
    · subst hk
      by_cases hl : k < s.procs.length <;> simp [hl]
    · simp [hk]
  unfold State.endOp; rw [h]

/-- Positions depend on the contexts only. -/
theorem State.seqOf_congr {s t : State} (h : t.procs = s.procs) (k : Nat) : t.seqOf k = s.seqOf k := by
  simp [State.seqOf, h]

/-! ### Transactions -/

/-- The fields of a word from its bits 39:32 (R81). -/
theorem busFields {t : BusWord} {op : Byte} (h : t.extractLsb' 32 8 = op) :
    busWrite t = op.getLsbD 7 ∧ busOffset t = (op.extractLsb' 0 7).toNat := by
  subst h
  refine ⟨by simp [busWrite], ?_⟩
  unfold busOffset
  congr 1
  apply BitVec.eq_of_getLsbD_eq
  intro i hi
  simp [hi, show i < 8 by omega]

/-- A byte that selects a register and a direction encodes the access (R86, R87). -/
theorem encodedAs_of {op : Byte} {dle : Bool} {instr : Word → Instr} {r : Reg}
    (hs : selectReg Config.hw dle (op.getLsbD 7) (op.extractLsb' 0 7).toNat = some r)
    (hi : ∀ v, accessInstr r (op.getLsbD 7) v = some (instr v)) : EncodedAs op dle instr := by
  intro t ht
  obtain ⟨hw, ho⟩ := busFields ht
  have hd : busData t = t.extractLsb' 0 32 := rfl
  simp only [decodeBus, hw, ho, hs, Option.bind_some, hi, hd]

/-- What a register's own rule can do when it answers a next state (R100 to R116). -/
structure BusEffect (i : Instr) (s t : State) : Prop where
  block  : SameBlock s t
  fifo   : t.rxFifo.length ≤ s.rxFifo.length
  faults : s.faults.subset t.faults
  lcr    : t.lcr = s.lcr ∨ lcrAccepted s.cfg t.lcr = true
  ier    : t.ier = s.ier ∨ ierAccepted s.cfg t.ier = true
  mode   : t.mode = s.mode ∨ t.mode = s.cfg.modeExt ∨ t.mode = s.cfg.modeNormal
  result : ∀ e, t.result ≠ .raised e
  hold   : t.txHold = s.txHold ∨ t.txHold = none ∨ ∃ v, i = .wrTxd v
  overrun : t.faults.has .txOverrun = s.faults.has .txOverrun ∨ ((∃ v, i = .wrTxd v) ∧ s.txHold ≠ none)

/-- The state without the part a transaction can change. -/
theorem sameBlock_refl (s : State) : SameBlock s s := by constructor <;> rfl

theorem SameBlock.trans {s t u : State} (h : SameBlock s t) (k : SameBlock t u) : SameBlock s u := by
  constructor
  exacts [k.cfg.trans h.cfg, k.txLine.trans h.txLine, k.rxLine.trans h.rxLine, k.txCounter.trans h.txCounter,
    k.storage.trans h.storage, k.readCursor.trans h.readCursor, k.writeCursor.trans h.writeCursor,
    k.registerLock.trans h.registerLock, k.bufferLock.trans h.bufferLock, k.lifecycle.trans h.lifecycle,
    k.handlerAttached.trans h.handlerAttached, k.inHandler.trans h.inHandler, k.irqId.trans h.irqId,
    k.procs.trans h.procs, k.handler.trans h.handler, k.schedule.trans h.schedule]

/-- One lemma for all reads of a stored register. -/
theorem returnsRead_effect (i : Instr) (s : State) (b : Byte) : BusEffect i s (s.returnsRead b) := by
  constructor <;> first
    | exact .inl rfl
    | exact FaultSet.subset_refl _
    | exact Nat.le_refl _
    | (constructor <;> rfl)
    | (intro e; simp)

/-- The mark of a configuration write only adds to the faults, and never `TxOverrun`. -/
theorem markConfigWrite_faults_subset (s : State) :
    s.faults.subset s.markConfigWrite.faults ∧ s.markConfigWrite.faults.has .txOverrun = s.faults.has .txOverrun := by
  rw [State.markConfigWrite_faults]
  split
  · exact ⟨FaultSet.subset_refl _, rfl⟩
  · exact ⟨FaultSet.subset_add _ _, by simp⟩

/-- What a register transaction can do (R100): the block around the registers stays, nothing is raised, and only an accepted value is
stored. -/
theorem exec_effect {i : Instr} {s t : State} (hi : i.access ≠ none) (h : exec i s = .next t) : BusEffect i s t := by
  have mark := markConfigWrite_faults_subset s
  cases i with
  | ctrlReset _ => simp [Instr.access] at hi
  | ctrlGet _ => simp [Instr.access] at hi
  | rdLcr => cases h; exact returnsRead_effect _ _ _
  | rdDll => cases h; exact returnsRead_effect _ _ _
  | rdDlh => cases h; exact returnsRead_effect _ _ _
  | rdIer => cases h; exact returnsRead_effect _ _ _
  | rdMode => cases h; exact returnsRead_effect _ _ _
  | rdLsr =>
    cases h
    have e := returnsRead_effect .rdLsr (s.drawn 1)
      (lineStatus s.cfg.lsrTxrdy (Config.freeByte s.draws) s.txReady)
    exact ⟨⟨e.block.cfg, e.block.txLine, e.block.rxLine, e.block.txCounter, e.block.storage, e.block.readCursor,
      e.block.writeCursor, e.block.registerLock, e.block.bufferLock, e.block.lifecycle, e.block.handlerAttached,
      e.block.inHandler, e.block.irqId, e.block.procs, e.block.handler, e.block.schedule⟩, e.fifo, e.faults, e.lcr, e.ier,
      e.mode, e.result, e.hold, e.overrun⟩
  | rdFcr =>
    cases h
    constructor <;> first | exact .inl rfl | exact FaultSet.subset_refl _ | exact Nat.le_refl _ | (constructor <;> rfl) | simp
  | wrLsr v => cases h
  | rdRxd =>
    simp only [exec, execRdRxd] at h
    split at h <;> cases h
    · constructor <;> first | exact .inl rfl | exact FaultSet.subset_refl _ | exact Nat.le_refl _ | (constructor <;> rfl) | simp
    · constructor <;> first | exact .inl rfl | exact FaultSet.subset_refl _ | (constructor <;> rfl) | simp_all
  | wrTxd v =>
    simp only [exec, execWrTxd] at h
    split at h <;> cases h
    · constructor <;> first
        | exact .inl rfl | exact FaultSet.subset_add _ _ | exact Nat.le_refl _ | (constructor <;> rfl) | simp_all
    · constructor <;> first
        | exact .inl rfl | exact FaultSet.subset_refl _ | exact Nat.le_refl _ | (constructor <;> rfl) | simp_all
  | wrDll v =>
    cases h
    constructor <;> first | exact mark.1 | exact .inl mark.2 | (constructor <;> simp) | simp
  | wrDlh v =>
    cases h
    constructor <;> first | exact mark.1 | exact .inl mark.2 | (constructor <;> simp) | simp
  | wrLcr v =>
    simp only [exec, execWrLcr] at h
    split at h
    next ha =>
      cases h
      constructor <;> first | exact mark.1 | exact .inl mark.2 | exact .inr ha | (constructor <;> simp) | simp
    next => cases h
  | wrFcr v =>
    simp only [exec, execWrFcr] at h
    split at h
    next ha =>
      cases h
      constructor <;> first
        | exact .inl rfl | exact FaultSet.subset_refl _ | (constructor <;> rfl) | (intro e; simp)
        | (simp only; split <;> simp)
    next => cases h
  | wrIer v =>
    simp only [exec, execWrIer] at h
    split at h
    next ha =>
      cases h
      constructor <;> first
        | exact .inl rfl | exact .inr ha | exact FaultSet.subset_refl _ | exact Nat.le_refl _ | (constructor <;> rfl) | simp
    next => cases h
  | wrMode v =>
    simp only [exec, execWrMode] at h
    split at h
    next ha =>
      cases h
      have ha' : lowByte v = s.cfg.modeExt ∨ lowByte v = s.cfg.modeNormal := by simpa [modeAccepted] using ha
      constructor <;> first
        | exact .inl rfl | exact .inr ha' | exact FaultSet.subset_refl _ | exact Nat.le_refl _ | (constructor <;> rfl) | simp
    next => cases h

/-- No instruction ends in a fault of the machine (R206). -/
theorem exec_ne_fault (i : Instr) (s : State) (r : Fault) : exec i s ≠ .fault r := by
  intro h
  cases i <;> simp only [exec, execRdRxd, execWrTxd, execRdDll, execWrDll, execRdIer, execWrIer, execRdDlh, execWrDlh,
    execRdFcr, execWrFcr, execRdLcr, execWrLcr, execRdLsr, execWrLsr, execRdMode, execWrMode, execCtrlReset,
    execCtrlGet, reduceCtorEq] at h <;>
    (split at h <;> cases h)

/-- A mapped word of a reachable register runs that access (R86, R100). -/
theorem transact_busWord {s : State} {write : Bool} {r : Reg} {v : Word} {i : Instr} (hv : s.cfg.valid = true)
    (hm : s.mapped = true) (hr : s.cfg.reachable s.dle r write = true) (hi : accessInstr r write v = some i) :
    transact (busWord write (s.cfg.offset r) v) s = exec i s := by
  simp [transact, hm, decodeBus_busWord hv hr hi]

/-- A transaction that answers a next state is the unmapped access or an instruction's own rule (R100). -/
theorem transact_eq_next {w : BusWord} {s t : State} (h : transact w s = .next t) :
    (s.mapped = false ∧ t = s.unmappedAccess) ∨
    (s.mapped = true ∧ ∃ i, decodeBus s.cfg s.dle w = .ok i ∧ i.access ≠ none ∧ exec i s = .next t) := by
  unfold transact at h
  split at h
  next hm =>
    split at h
    next i hd => exact .inr ⟨hm, i, hd, decodeBus_access hd, h⟩
    next => cases h
  next hm => exact .inl ⟨by simpa using hm, by cases h; rfl⟩

/-- What any transaction leaves alone (R75, R100). -/
theorem transact_frame {w : BusWord} {s t : State} (h : transact w s = .next t) :
    SameBlock s t ∧ t.rxFifo.length ≤ s.rxFifo.length ∧ s.faults.subset t.faults ∧
    (t.lcr = s.lcr ∨ lcrAccepted s.cfg t.lcr = true) ∧ (t.ier = s.ier ∨ ierAccepted s.cfg t.ier = true) ∧
    (t.mode = s.mode ∨ t.mode = s.cfg.modeExt ∨ t.mode = s.cfg.modeNormal) := by
  rcases transact_eq_next h with ⟨-, rfl⟩ | ⟨-, i, -, hi, he⟩
  · exact ⟨by constructor <;> rfl, Nat.le_refl _, FaultSet.subset_add _ _, .inl rfl, .inl rfl, .inl rfl⟩
  · have e := exec_effect hi he
    exact ⟨e.block, e.fifo, e.faults, e.lcr, e.ier, e.mode⟩

theorem transact_ne_fault (w : BusWord) (s : State) (r : Fault) : transact w s ≠ .fault r := by
  unfold transact
  split
  · split
    · exact exec_ne_fault _ _ _
    · simp
  · simp

end Sys2Proof.Machine
end

