-- ==== Sys2Proof/Laws/Moves.lean ====
section
/-! SUPPORT. What one step of the machine can do, said once: a step that answers a next state is one of the moves below, or
nobody moved. -/

namespace Sys2Proof.Machine

/-- The register access that a position asks for next, if it asks for one (R90, R130, R182). -/
def OpSeq.asks (c : Config) : OpSeq → Option BusWord
  | .bus t => some t
  | .tx j =>
    match j.label with
    | .poll => some (busWord false c.offLsr 0#32)
    | .send => some (busWord true c.offTxd (zext32 j.cur))
    | .count => none
  | .init .i1 => some (busWord true c.offMode (zext32 c.modeExt))
  | .init .i2 => some (busWord true c.offFcr (zext32 (c.fcrClrRx ||| c.fcrClrTx)))
  | .init .i3 => some (busWord true c.offLcr (zext32 c.lcrDle))
  | .init .i4 => some (busWord true c.offDll (zext32 (divisorLow c.divisor)))
  | .init .i5 => some (busWord true c.offDlh (zext32 (divisorHigh c.divisor)))
  | .init .i6 => some (busWord true c.offLcr (zext32 c.lcrWlen8))
  | .init .i7 => some (busWord true c.offMode (zext32 c.modeNormal))
  | .init .i8 => none
  | .init .i9 => some (busWord true c.offIer (zext32 c.ierRdi))
  | .ctrl _ | .popWait _ | .popDeq _ | .teardown _ _ => none

/-- Where the operation of context `k` stands after the access its position `q` asked for, from the state `u` with the lock
released. -/
inductive After (k : Nat) : OpSeq → State → State → Prop
  | raised {q : OpSeq} {u : State} {e : Exc} : u.result = .raised e → After k q u (u.endOp k (.raised e))
  | busEnd {w : BusWord} {u : State} : After k (.bus w) u (u.endOp k u.result)
  | pollAgain {j : TxJob} {u : State} : j.label = .poll → After k (.tx j) u u
  | polled {j : TxJob} {u : State} {v : Word} : j.label = .poll → u.result = .word v → anyBit v u.cfg.lsrTxrdy = true →
      After k (.tx j) u (u.setSeq k (.tx { j with label := .send }))
  | sent {j : TxJob} {u : State} : j.label = .send → After k (.tx j) u (u.setSeq k (.tx { j with label := .count }))
  | nextInit {l l' : InitLabel} {u : State} : After k (.init l) u (u.setSeq k (.init l'))
  | configured {u : State} : u.lifecycle = .registersMapped →
      After k (.init .i7) u ((u.setLifecycle .hardwareConfigured).setSeq k (.init .i8))
  | enabled {u : State} : u.lifecycle = .hardwareConfigured →
      After k (.init .i9) u ((u.setLifecycle .interruptsEnabled).endOp k .noValue)

/-- The moves of the agents. -/
inductive Move : Event → State → State → Prop
  | still (e : Event) (s : State) : Move e s s
  | spawned (s : State) : Move .spawn s (spawn s)
  | begun {k : Nat} {r : Request} {q : OpSeq} {s : State} : s.seqOf k = none → r.begins = .inl q →
      Move (.start k r) s (s.setSeq k q)
  | answered {k : Nat} {r : Request} {v : Result} {s : State} : s.seqOf k = none → r.begins = .inr v →
      Move (.start k r) s (s.endOp k v)
  | access {k : Nat} {q : OpSeq} {w : BusWord} {s u t : State} : s.seqOf k = some q → s.registerLock = none →
      (q = .init .i1 → s.initUnderWay = false) →
      q.asks s.cfg = some w → transact w (s.setRegisterLock (some (.process k))) = .next u →
      After k q (u.setRegisterLock none) t → Move (.proc k) s t
  | controlled {k : Nat} {w : CtrlWord} {s u : State} : s.seqOf k = some (.ctrl w) → transactCtrl w s = .next u →
      Move (.proc k) s (u.endOp k u.result)
  | counted {k : Nat} {j : TxJob} {s : State} : s.seqOf k = some (.tx j) → j.label = .count →
      Move (.proc k) s (countStep k j s)
  | woken {k : Nat} {asRead : Bool} {s : State} : s.seqOf k = some (.popWait asRead) → s.notEmpty = true →
      Move (.proc k) s (s.setSeq k (.popDeq asRead))
  | dequeued {k : Nat} {asRead : Bool} {s : State} : s.seqOf k = some (.popDeq asRead) → s.bufferLock = none →
      Move (.proc k) s (s.dequeue.endOp k (popped asRead s.frontByte))
  | attached {k : Nat} {s : State} : s.seqOf k = some (.init .i8) → s.lifecycle = .hardwareConfigured →
      Move (.proc k) s (s.attachHandler.setSeq k (.init .i9))
  | tornDown {k : Nat} {l : TeardownLabel} {f : Option BringUpError} {s : State} : s.seqOf k = some (.teardown l f) →
      (l = .t1 → s.inHandler = false ∧ s.othersBusy k = false) → s.lifecycle = l.needs f →
      Move (.proc k) s (teardownAction k l f s)
  | cancelled {k : Nat} {asRead : Bool} {s : State} : s.seqOf k = some (.popWait asRead) →
      Move (.cancel k) s (s.endOp k (.raised .interrupted))
  | entered {s : State} : s.entryEnabled = true → Move .entry s s.interruptEntry
  | received {s u t : State} : s.handler = some .recv → regRead s.cfg.offRxd s = .next u → recvDecide u = .next t →
      Move .handler s t
  | enqueued {b : Byte} {s : State} : s.handler = some (.enq b) → s.bufferLock = none →
      Move .handler s ((s.enqueue b).setHandler .notify)
  | notified {s : State} : s.handler = some .notify → Move .handler s (s.setHandler .ret)
  | returned {s : State} : s.handler = some .ret → Move .handler s s.interruptReturn
  | drained {b : Byte} {s : State} : s.txHold = some b → s.normal = true →
      Move .drain s { s with txLine := s.txLine ++ [b], txHold := none }
  | lost {b : Byte} {rest : List Byte} {s : State} : s.rxLine = b :: rest → s.normal = false →
      Move .arrive s { s with rxLine := rest }
  | held {b : Byte} {rest : List Byte} {s : State} : s.rxLine = b :: rest → s.rxFifo.length < s.cfg.rxDepth →
      Move .arrive s { s with rxLine := rest, rxFifo := s.rxFifo ++ [b] }
  | overrun {b : Byte} {rest : List Byte} {s : State} : s.rxLine = b :: rest → ¬ s.rxFifo.length < s.cfg.rxDepth →
      Move .arrive s { s.addFault .rxHwOverrun with rxLine := rest }
  | platform (p : PlatformStep) (s : State) : Move (.platform p) s (platformStep p s)

/-- A locked access of context `k` and what comes after it. -/
theorem locked_move {k : Nat} {q : OpSeq} {w : BusWord} {s t : State} {after : Result → State → Answer State}
    (hq : s.seqOf k = some q) (ha : q.asks s.cfg = some w) (hi : q = .init .i1 → s.initUnderWay = false)
    (hafter : ∀ r u t, s.lifecycle = u.lifecycle → u.result = r → after r u = .next t → After k q u t)
    (h : withRegisterLock (.process k) s (transact w) (orRaised k after) = .next t) : Move (.proc k) s t := by
  rcases withRegisterLock_eq_next h with ⟨-, rfl⟩ | ⟨hl, u, hu, ht⟩
  · exact .still _ _
  · refine .access hq hl hi ha hu ?_
    have hb := (transact_frame hu).1
    unfold orRaised at ht
    split at ht
    next e he => cases ht; exact .raised he
    next => exact hafter _ _ _ (by simpa using hb.lifecycle.symm) rfl ht

/-- An `INIT` step that completes was in its own lifecycle state, and was no second `INIT` (R180, R191). -/
theorem initStep_eq_next {k : Nat} {l : InitLabel} {s t : State} (h : initStep k l s = .next t) :
    s.lifecycle = l.needs ∧ (l = .i1 → s.initUnderWay = false) ∧ initAction k l s = .next t := by
  unfold initStep at h
  split at h
  next => cases h
  next hn =>
    split at h
    next => cases h
    next hu => exact ⟨by simpa using hn, fun e => by simpa [e] using hu, h⟩

/-! ### How many contexts are inside `INIT` (R191) -/

/-- A change of one context that does not put it into `INIT` adds none. -/
theorem countP_modify_le_of_imp {p : Proc → Bool} {f : Proc → Proc} {l : List Proc} {k : Nat}
    (h : ∀ a, l[k]? = some a → p (f a) = true → p a = true) : (l.modify k f).countP p ≤ l.countP p := by
  induction l generalizing k with
  | nil => simp
  | cons a l ih =>
    cases k with
    | zero =>
      have := h a rfl
      simp only [List.modify_zero_cons, List.countP_cons]
      split <;> split <;> simp_all
    | succ k =>
      simp only [List.modify_succ_cons, List.countP_cons]
      have := ih (k := k) (fun a ha => h a (by simpa using ha))
      omega

/-- A change of one context adds one at most. -/
theorem countP_modify_le (p : Proc → Bool) (f : Proc → Proc) (l : List Proc) (k : Nat) :
    (l.modify k f).countP p ≤ l.countP p + 1 := by
  induction l generalizing k with
  | nil => simp
  | cons a l ih =>
    cases k with
    | zero =>
      simp only [List.modify_zero_cons, List.countP_cons]
      split <;> split <;> omega
    | succ k =>
      simp only [List.modify_succ_cons, List.countP_cons]
      have := ih k
      omega

/-- The end of an operation puts no context into `INIT`. -/
theorem State.endOp_countP_le (s : State) (k : Nat) (r : Result) :
    (s.endOp k r).procs.countP Proc.configuring ≤ s.procs.countP Proc.configuring :=
  countP_modify_le_of_imp fun _ _ hc => by simp [Proc.configuring] at hc

/-- Moving on to a position inside `INIT` only from inside `INIT` puts no context into it. -/
theorem State.setSeq_countP_le {s : State} {k : Nat} {q : OpSeq}
    (h : q.configuring = true → ∃ q', s.seqOf k = some q' ∧ q'.configuring = true) :
    (s.setSeq k q).procs.countP Proc.configuring ≤ s.procs.countP Proc.configuring := by
  refine countP_modify_le_of_imp fun a ha hc => ?_
  obtain ⟨q', hq, hc'⟩ := h (by simpa [Proc.configuring] using hc)
  simp only [State.seqOf, ha, Option.bind_some] at hq
  simp [Proc.configuring, hq, hc']

/-- With no `INIT` under way no context is inside one. -/
theorem State.countP_configuring_eq_zero {s : State} (h : s.initUnderWay = false) :
    s.procs.countP Proc.configuring = 0 :=
  List.countP_eq_zero.2 (List.any_eq_false.1 h)

/-- Every step that a position names is one of the moves. -/
theorem seqStep_move {k : Nat} {q : OpSeq} {s t : State} (hq : s.seqOf k = some q) (h : seqStep k q s = .next t) :
    Move (.proc k) s t := by
  cases q with
  | bus w =>
    simp only [seqStep, busStep] at h
    rcases withRegisterLock_eq_next h with ⟨-, rfl⟩ | ⟨hl, u, hu, ht⟩
    · exact .still _ _
    · cases ht; exact .access hq hl nofun rfl hu .busEnd
  | ctrl w =>
    simp only [seqStep, ctrlStep] at h
    obtain ⟨u, hu, ht⟩ := andThen_eq_next.1 h
    cases ht; exact .controlled hq hu
  | popWait r =>
    simp only [seqStep, waitStep, Host.Outcome.next.injEq] at h
    split at h
    next hn => subst h; exact .woken hq hn
    next => subst h; exact .still _ _
  | popDeq r =>
    simp only [seqStep, deqStep, Host.Outcome.next.injEq] at h
    cases hb : s.bufferLock with
    | some a => rw [withBufferLock_held (by simp [hb])] at h; subst h; exact .still _ _
    | none =>
      rw [withBufferLock_free hb] at h
      subst h
      have hs : ((s.setBufferLock (some (.process k))).dequeue.setBufferLock none) = s.dequeue := by
        cases s; simp_all [State.setBufferLock, State.dequeue, State.advance]
      rw [hs]
      exact .dequeued hq hb
  | tx j =>
    simp only [seqStep, txStep] at h
    split at h
    next hl =>
      refine locked_move hq (by simp [OpSeq.asks, hl]) nofun ?_ h
      intro r u t _ hr ht
      unfold pollDecide at ht
      split at ht
      next v =>
        split at ht <;> cases ht
        next hv => exact .polled hl hr hv
        next => exact .pollAgain hl
      next => cases ht; exact .pollAgain hl
    next hl =>
      refine locked_move hq (by simp [OpSeq.asks, hl]) nofun ?_ h
      intro r u t _ _ ht
      cases ht; exact .sent hl
    next hl => cases h; exact .counted hq hl
  | init l =>
    obtain ⟨hn, h1, h⟩ := initStep_eq_next h
    have hi : OpSeq.init l = .init .i1 → s.initUnderWay = false := fun e => h1 (OpSeq.init.inj e)
    cases l <;> simp only [initAction, lockedWrite] at h
    case i8 => cases h; exact .attached hq hn
    case i7 =>
      refine locked_move hq (by simp [OpSeq.asks]) hi ?_ h
      intro r u t hu _ ht
      cases ht; exact .configured (by rw [← hu, hn]; rfl)
    case i9 =>
      refine locked_move hq (by simp [OpSeq.asks]) hi ?_ h
      intro r u t hu _ ht
      cases ht; exact .enabled (by rw [← hu, hn]; rfl)
    all_goals
      refine locked_move hq (by simp [OpSeq.asks]) hi ?_ h
      intro r u t _ _ ht
      cases ht; exact .nextInit
  | teardown l f =>
    simp only [seqStep, teardownStep] at h
    split at h
    next => cases h; exact .still _ _
    next h1 =>
      split at h
      next => cases h
      next h2 =>
        split at h
        next => cases h
        next h3 =>
          cases h
          refine .tornDown hq (fun hl => ⟨?_, ?_⟩) (by simpa using h2)
          · simpa [hl] using h1
          · simpa [hl] using h3

/-- A locked section of the handler on the buffer. -/
theorem enqStep_move {b : Byte} {s : State} (h : s.handler = some (.enq b)) : Move .handler s (enqStep b s) := by
  unfold enqStep
  cases hb : s.bufferLock with
  | some a => rw [withBufferLock_held (by simp [hb])]; exact .still _ _
  | none =>
    rw [withBufferLock_free hb]
    have hs : ((s.setBufferLock (some .handler)).enqueue b).setBufferLock none = s.enqueue b := by
      cases s; simp_all [State.setBufferLock, State.enqueue, State.advance]
    rw [hs]
    exact .enqueued h hb

/-- The next step of the handler is one of the moves. -/
theorem handlerStep_move {s t : State} (h : handlerStep s = .next t) : Move .handler s t := by
  unfold handlerStep at h
  split at h
  next => cases h; exact .still _ _
  next hr => obtain ⟨u, hu, ht⟩ := andThen_eq_next.1 h; exact .received hr hu ht
  next b hb => cases h; exact enqStep_move hb
  next hn => cases h; exact .notified hn
  next hr => cases h; exact .returned hr

/-- The start of an operation is one of the moves. -/
theorem start_move (k : Nat) (r : Request) (s : State) : Move (.start k r) s (start k r s) := by
  unfold start
  split
  next p hp =>
    have hk : s.seqOf k = none := by simp [State.seqOf, hp]
    split
    next q hq => exact .begun hk hq
    next v hv => exact .answered hk hv
  next => exact .still _ _

/-- The receiver's step is one of the moves. -/
theorem arrive_move (s : State) : Move .arrive s (arrive s) := by
  unfold arrive
  split
  next => exact .still _ _
  next b rest hr =>
    split
    next hn => exact .lost hr (by simpa using hn)
    next =>
      split
      next hd => exact .held hr hd
      next hd => exact .overrun hr hd

/-- Whatever is chosen, one of the moves is made. -/
theorem take_move {e : Event} {s t : State} (h : take e s = .next t) : Move e s t := by
  cases e with
  | spawn => cases h; exact .spawned s
  | start k r =>
    simp only [take, asProcess] at h
    split at h <;> cases h
    · exact start_move k r s
    · exact .still _ _
  | proc k =>
    simp only [take, asProcess] at h
    split at h
    · unfold procStep at h
      split at h
      next q hq => exact seqStep_move hq h
      next => cases h; exact .still _ _
    · cases h; exact .still _ _
  | cancel k =>
    simp only [take, cancel, Host.Outcome.next.injEq] at h
    split at h
    next r hr => subst h; exact .cancelled hr
    next => subst h; exact .still _ _
  | entry =>
    simp only [take, enterHandler, Host.Outcome.next.injEq] at h
    split at h
    next he => subst h; exact .entered he
    next => subst h; exact .still _ _
  | handler => exact handlerStep_move h
  | drain =>
    simp only [take, drain, Host.Outcome.next.injEq] at h
    split at h
    next b hb =>
      split at h
      next hn => subst h; exact .drained hb hn
      next => subst h; exact .still _ _
    next => subst h; exact .still _ _
  | arrive => cases h; exact arrive_move s
  | platform p => cases h; exact .platform p s

/-- A step is refused for its configuration, leaves everything as it is, or makes the move its schedule names first. -/
theorem step_eq_next {s t : State} (h : step s = .next t) :
    s.cfg.valid = true ∧ ((s.schedule = [] ∧ t = s) ∨
      ∃ e es, s.schedule = e :: es ∧ Move e { s with schedule := es } t) := by
  unfold step at h
  split at h
  next hv =>
    refine ⟨hv, ?_⟩
    unfold takeNext at h
    split at h
    next hs => exact .inl ⟨hs, by cases h; rfl⟩
    next e es hs => exact .inr ⟨e, es, hs, take_move h⟩
  next => cases h

end Sys2Proof.Machine
end

