-- ==== Sys2Proof/Laws/PerInstr.lean ====
section
/-! SUPPORT. One statement per instruction: the encoder lays its word out as the opcode table does (spec/30_encoding.md R81, R82,
R87). -/

namespace Sys2Proof.Laws.TableRow

/-- The word of an instruction at the parameters of R5: bits 39:32 of a `BUS` word are the row's, bits 31:0 the written value; a
`CTRL` word has the operation number of its row above its argument. -/
def Statement (i : Instr) : Prop :=
  match encode Config.hw i with
  | .bus t => i.opcode = some (t.extractLsb' 32 8) ∧ ∀ v, i.written = some v → t.extractLsb' 0 32 = v
  | .ctrl k => i.opcode = none ∧ (i = .ctrlReset (ctrlArg k) ∧ ctrlOp k = 0#32 ∨ i = .ctrlGet (ctrlArg k) ∧ ctrlOp k = 1#32)

/-- A write word carries its value in bits 31:0 and the table's byte above. -/
theorem write_word (off : Nat) (v : Word) :
    (busWord true off v).extractLsb' 32 8 = BitVec.ofBool true ++ BitVec.ofNat 7 off ∧
    (busWord true off v).extractLsb' 0 32 = v :=
  ⟨extract_high _ _, extract_low _ _⟩

/-- The row of a write. -/
theorem write_row {i : Instr} {off : Nat} {v : Word} (he : encode Config.hw i = .bus (busWord true off v))
    (ho : i.opcode = some (BitVec.ofBool true ++ BitVec.ofNat 7 off)) (hw : ∀ u, i.written = some u → v = u) : Statement i := by
  unfold Statement
  rw [he]
  exact ⟨ho.trans (congrArg some (write_word off v).1.symm), fun u h => (write_word off v).2.trans (hw u h)⟩

/-- The row of a read. -/
theorem read_row {i : Instr} {off : Nat} (he : encode Config.hw i = .bus (busWord false off 0#32))
    (ho : i.opcode = some (BitVec.ofBool false ++ BitVec.ofNat 7 off)) (hw : i.written = none) : Statement i := by
  unfold Statement
  rw [he]
  refine ⟨ho.trans (congrArg some ?_), fun u h => by rw [hw] at h; cases h⟩
  exact (extract_high (BitVec.ofBool false ++ BitVec.ofNat 7 off) (0#32)).symm

theorem rdRxd : Statement .rdRxd := read_row rfl rfl rfl

theorem wrTxd (v : Word) : Statement (.wrTxd v) :=
  write_row rfl rfl (fun _ h => Option.some.inj h)

theorem rdDll : Statement .rdDll := read_row rfl rfl rfl

theorem wrDll (v : Word) : Statement (.wrDll v) :=
  write_row rfl rfl (fun _ h => Option.some.inj h)

theorem rdIer : Statement .rdIer := read_row rfl rfl rfl

theorem wrIer (v : Word) : Statement (.wrIer v) :=
  write_row rfl rfl (fun _ h => Option.some.inj h)

theorem rdDlh : Statement .rdDlh := read_row rfl rfl rfl

theorem wrDlh (v : Word) : Statement (.wrDlh v) :=
  write_row rfl rfl (fun _ h => Option.some.inj h)

theorem rdFcr : Statement .rdFcr := read_row rfl rfl rfl

theorem wrFcr (v : Word) : Statement (.wrFcr v) :=
  write_row rfl rfl (fun _ h => Option.some.inj h)

theorem rdLcr : Statement .rdLcr := read_row rfl rfl rfl

theorem wrLcr (v : Word) : Statement (.wrLcr v) :=
  write_row rfl rfl (fun _ h => Option.some.inj h)

theorem rdLsr : Statement .rdLsr := read_row rfl rfl rfl

theorem wrLsr (v : Word) : Statement (.wrLsr v) :=
  write_row rfl rfl (fun _ h => Option.some.inj h)

theorem rdMode : Statement .rdMode := read_row rfl rfl rfl

theorem wrMode (v : Word) : Statement (.wrMode v) :=
  write_row rfl rfl (fun _ h => Option.some.inj h)

theorem ctrlReset (arg : Word) : Statement (.ctrlReset arg) := by
  simp [Statement, encode, Instr.opcode]

theorem ctrlGet (arg : Word) : Statement (.ctrlGet arg) := by
  simp [Statement, encode, Instr.opcode]

end Sys2Proof.Laws.TableRow
end

