-- ==== Sys2Proof/Laws/Steps.lean ====
section
/-! SUPPORT. One step by the head of its schedule, runs of several steps, the lock-protected accesses on a register they reach,
and what a process context's access leaves alone. -/

namespace Sys2Proof.Machine

/-! ### Steps and runs -/

/-- With a valid configuration the step is the first choice of the schedule. -/
theorem step_cons {s : State} {e : Event} {es : List Event} (hv : s.cfg.valid = true) (hs : s.schedule = e :: es) :
    step s = take e { s with schedule := es } := by
  simp [step, hv, takeNext, hs]

/-- A process context that may step takes the step its position names. -/
theorem step_proc {s : State} {k : Nat} {es : List Event} {q : OpSeq} (hv : s.cfg.valid = true)
    (hs : s.schedule = .proc k :: es) (hm : s.processMayStep = true) (hq : s.seqOf k = some q) :
    step s = seqStep k q { s with schedule := es } := by
  have hm' : ({ s with schedule := es } : State).processMayStep = true := hm
  have hq' : ({ s with schedule := es } : State).seqOf k = some q := hq
  rw [step_cons hv hs]
  simp only [take, asProcess, hm', if_true, procStep, hq']

/-- No step. -/
theorem run_zero {s : State} : Host.Core.run Sys2Proof.core 0 s = .next s := rfl

/-- A first step of any machine, and the rest. -/
theorem run_succ_of {M : Host.Core} {s t : M.State} {n : Nat} (h : M.step s = .next t) : M.run (n + 1) s = M.run n t := by
  simp only [Host.Core.run, h]

/-- A first step, and the rest. -/
theorem run_succ {s t : State} {n : Nat} (h : step s = .next t) :
    Host.Core.run Sys2Proof.core (n + 1) s = Host.Core.run Sys2Proof.core n t :=
  run_succ_of (M := core) h

/-- Two runs in a row. -/
theorem run_add {M : Host.Core} {m n : Nat} {s t : M.State} (h : M.run m s = .next t) : M.run (m + n) s = M.run n t := by
  induction m generalizing s with
  | zero => simp only [Host.Core.run, Host.Outcome.next.injEq] at h; subst h; simp
  | succ m ih =>
    rw [show m + 1 + n = (m + n) + 1 by omega]
    simp only [Host.Core.run] at h ⊢
    split at h
    next => exact ih h
    all_goals cases h

/-- Moving on replaces the context's record. -/
theorem State.setSeq_eq_set {s : State} {k : Nat} {p : Proc} (q : OpSeq) (h : s.procs[k]? = some p) :
    s.setSeq k q = { s with procs := s.procs.set k { p with seq := some q } } := by
  have e : s.procs.modify k (fun p => { p with seq := some q }) = s.procs.set k { p with seq := some q } := by
    apply List.ext_getElem?
    intro m
    rw [List.getElem?_modify, List.getElem?_set]
    by_cases hk : k = m
    · subst hk
      have hl : k < s.procs.length := by
        by_contra hh
        simp [List.getElem?_eq_none (Nat.le_of_not_lt hh)] at h
      rw [List.getElem?_eq_getElem hl, Option.some.injEq] at h
      simp [hl, h]
    · simp [hk]
  unfold State.setSeq
  rw [e]

/-! ### Lock-protected accesses (R66) -/

/-- A lock-protected write that reaches a register and completes there goes on from the register's own rule. -/
theorem lockedWrite_eq {s u : State} {k : Nat} {v : Word} {off : Nat} {after : State → Answer State} {r : Reg} {i : Instr}
    (hv : s.cfg.valid = true) (hm : s.mapped = true) (hl : s.registerLock = none) (ho : s.cfg.offset r = off)
    (hr : s.cfg.reachable s.dle r true = true) (hi : accessInstr r true v = some i)
    (he : exec i (s.setRegisterLock (some (.process k))) = .next u) (hres : u.result = .noValue) :
    lockedWrite k v off s after = after (u.setRegisterLock none) := by
  unfold lockedWrite
  rw [withRegisterLock_free hl]
  have e : regWrite v off (s.setRegisterLock (some (.process k))) = .next u := by
    rw [← he, ← ho]
    exact transact_busWord (s := s.setRegisterLock (some (.process k))) hv hm hr hi
  rw [e]
  simp only [andThen_next, orRaised, State.setRegisterLock_result, hres]

/-- A lock-protected read that reaches a register and completes there goes on with the word it returned. -/
theorem lockedRead_eq {s u : State} {k off : Nat} {after : Result → State → Answer State} {r : Reg} {i : Instr} {w : Word}
    (hv : s.cfg.valid = true) (hm : s.mapped = true) (hl : s.registerLock = none) (ho : s.cfg.offset r = off)
    (hr : s.cfg.reachable s.dle r false = true) (hi : accessInstr r false 0#32 = some i)
    (he : exec i (s.setRegisterLock (some (.process k))) = .next u) (hres : u.result = .word w) :
    lockedRead k off s after = after (.word w) (u.setRegisterLock none) := by
  unfold lockedRead
  rw [withRegisterLock_free hl]
  have e : regRead off (s.setRegisterLock (some (.process k))) = .next u := by
    rw [← he, ← ho]
    exact transact_busWord (s := s.setRegisterLock (some (.process k))) hv hm hr hi
  rw [e]
  simp only [andThen_next, orRaised, State.setRegisterLock_result, hres]

/-! ### What an access of a process context leaves alone -/

/-- What comes after an access changes the lifecycle, the position and nothing else. -/
structure AfterFrame (u t : State) : Prop where
  cfg             : t.cfg = u.cfg
  txHold          : t.txHold = u.txHold
  rxFifo          : t.rxFifo = u.rxFifo
  lcr             : t.lcr = u.lcr
  ier             : t.ier = u.ier
  mode            : t.mode = u.mode
  txLine          : t.txLine = u.txLine
  rxLine          : t.rxLine = u.rxLine
  txCounter       : t.txCounter = u.txCounter
  storage         : t.storage = u.storage
  readCursor      : t.readCursor = u.readCursor
  writeCursor     : t.writeCursor = u.writeCursor
  registerLock    : t.registerLock = u.registerLock
  bufferLock      : t.bufferLock = u.bufferLock
  handlerAttached : t.handlerAttached = u.handlerAttached
  inHandler       : t.inHandler = u.inHandler
  irqId           : t.irqId = u.irqId
  faults          : t.faults = u.faults
  handler         : t.handler = u.handler
  schedule        : t.schedule = u.schedule
  lifecycle       : t.lifecycle = u.lifecycle ∨
    (u.lifecycle = .registersMapped ∧ t.lifecycle = .hardwareConfigured) ∨
    (u.lifecycle = .hardwareConfigured ∧ t.lifecycle = .interruptsEnabled)

/-- The frame of what comes after an access. -/
theorem After.frame {k : Nat} {q : OpSeq} {u t : State} (h : After k q u t) : AfterFrame u t := by
  cases h <;> constructor <;> simp_all

/-- What comes after an access of one context moves no other context. -/
theorem After.seqOf_ne {k m : Nat} {q : OpSeq} {u t : State} (h : After k q u t) (hm : m ≠ k) : t.seqOf m = u.seqOf m := by
  cases h <;> simp [State.seqOf, State.setSeq, State.endOp, State.setLifecycle, hm.symm]

/-- What the whole access step of a context leaves alone (R66, R100). -/
structure AccessFrame (s t : State) : Prop where
  cfg             : t.cfg = s.cfg
  schedule        : t.schedule = s.schedule
  txLine          : t.txLine = s.txLine
  rxLine          : t.rxLine = s.rxLine
  txCounter       : t.txCounter = s.txCounter
  storage         : t.storage = s.storage
  readCursor      : t.readCursor = s.readCursor
  writeCursor     : t.writeCursor = s.writeCursor
  bufferLock      : t.bufferLock = s.bufferLock
  handlerAttached : t.handlerAttached = s.handlerAttached
  inHandler       : t.inHandler = s.inHandler
  irqId           : t.irqId = s.irqId
  handler         : t.handler = s.handler
  fifo            : t.rxFifo.length ≤ s.rxFifo.length
  faults          : s.faults.subset t.faults
  lcr             : t.lcr = s.lcr ∨ lcrAccepted s.cfg t.lcr = true
  ier             : t.ier = s.ier ∨ ierAccepted s.cfg t.ier = true
  mode            : t.mode = s.mode ∨ t.mode = s.cfg.modeExt ∨ t.mode = s.cfg.modeNormal
  registerLock    : t.registerLock = none
  lifecycle       : t.lifecycle = s.lifecycle ∨
    (s.lifecycle = .registersMapped ∧ t.lifecycle = .hardwareConfigured) ∨
    (s.lifecycle = .hardwareConfigured ∧ t.lifecycle = .interruptsEnabled)

/-- The frame of an access step. -/
theorem access_frame {k : Nat} {q : OpSeq} {w : BusWord} {s u t : State}
    (hu : transact w (s.setRegisterLock (some (.process k))) = .next u) (h : After k q (u.setRegisterLock none) t) :
    AccessFrame s t := by
  obtain ⟨hb, hf, hfa, hl, hi, hm⟩ := transact_frame hu
  have a := h.frame
  exact {
    cfg := a.cfg.trans hb.cfg
    schedule := a.schedule.trans hb.schedule
    txLine := a.txLine.trans hb.txLine
    rxLine := a.rxLine.trans hb.rxLine
    txCounter := a.txCounter.trans hb.txCounter
    storage := a.storage.trans hb.storage
    readCursor := a.readCursor.trans hb.readCursor
    writeCursor := a.writeCursor.trans hb.writeCursor
    bufferLock := a.bufferLock.trans hb.bufferLock
    handlerAttached := a.handlerAttached.trans hb.handlerAttached
    inHandler := a.inHandler.trans hb.inHandler
    irqId := a.irqId.trans hb.irqId
    handler := a.handler.trans hb.handler
    fifo := a.rxFifo ▸ hf
    faults := a.faults ▸ hfa
    lcr := a.lcr ▸ hl
    ier := a.ier ▸ hi
    mode := a.mode ▸ hm
    registerLock := a.registerLock
    lifecycle := by
      have e : (u.setRegisterLock none).lifecycle = s.lifecycle := hb.lifecycle
      exact e ▸ a.lifecycle }

/-- What the handler does with its read (R153, R203). -/
theorem recvDecide_cases {u t : State} (h : recvDecide u = .next t) :
    (∃ v, u.result = .word v ∧ t = u.setHandler (.enq (lowByte v))) ∨
    ((∀ v, u.result ≠ .word v) ∧ t = u.interruptReturn) := by
  unfold recvDecide at h
  split at h
  next v hv => exact .inl ⟨v, hv, by cases h; rfl⟩
  next hn => exact .inr ⟨hn, by cases h; rfl⟩

/-- A control word either is `CTRL.RESET` or changes nothing but the result (R135, R137, R138). -/
theorem transactCtrl_cases {w : CtrlWord} {s u : State} (h : transactCtrl w s = .next u) :
    (ctrlOp w = 0#32 ∧ u = { s.returns .noValue with txCounter := 0 }) ∨ (∃ r, u = s.returns r) := by
  unfold transactCtrl at h
  split at h
  next i hi =>
    rcases decodeCtrl_cases hi with ⟨h0, rfl⟩ | ⟨h1, rfl⟩
    · cases h; exact .inl ⟨h0, rfl⟩
    · cases h; exact .inr ⟨_, rfl⟩
  next => cases h; exact .inr ⟨_, rfl⟩

end Sys2Proof.Machine
end

