-- ==== Sys2Proof/Tests/Slice0.lean ====
section
/-! SUPPORT. The model's own tests, with expected results from spec/95_test_vectors.md (vector numbers in the comments), and for
every obligation with hypotheses a state and operands that meet them. -/

namespace Sys2Proof.Tests
open Sys2Proof Sys2Proof.Machine

/-! ### WellFormed refuses an ill-formed term for each check -/

/-- Offsets moved by hand, for the ill-formed configurations. -/
def moved (rxd txd dll dlh ier mode : Nat) : Config :=
  { Config.hw with offRxd := rxd, offTxd := txd, offDll := dll, offDlh := dlh, offIer := ier, offMode := mode }

/-- A latch is not reached while the latches are closed. -/
theorem test_wellFormed_latch_closed :
    Instr.rdDll.wellFormed Config.hw false = false ∧ (Instr.wrDlh 1#32).wellFormed Config.hw false = false := by decide

/-- The data registers and Interrupt Enable are not reached while the latches are open. -/
theorem test_wellFormed_latch_open :
    Instr.rdRxd.wellFormed Config.hw true = false ∧ (Instr.wrTxd 1#32).wellFormed Config.hw true = false ∧
    Instr.rdIer.wellFormed Config.hw true = false ∧ (Instr.wrIer 1#32).wellFormed Config.hw true = false := by decide

/-- An offset of eight bits has no word. -/
theorem test_wellFormed_offset : Instr.rdMode.wellFormed (moved 0 0 0 1 1 128) false = false := by decide

/-- The high latch behind the low one, and Interrupt Enable behind a data register, are not reached. -/
theorem test_wellFormed_shadowed :
    Instr.rdDlh.wellFormed (moved 0 0 0 0 1 8) true = false ∧ Instr.rdIer.wellFormed (moved 1 0 0 1 1 8) false = false ∧
    (Instr.wrIer 1#32).wellFormed (moved 0 1 0 1 1 8) false = false := by decide

/-! ### Decoding: words written out bit by bit (W, OFF, DATA of R81; OP, ARG of R82; section 2.1) -/

/-- The overlaid registers with the latches closed: offset 0 is `0000000`, offset 1 is `0000001`. -/
theorem test_decode_data :
    decodeBus Config.hw false 0b0000000000000000000000000000000000000000#40 = .ok .rdRxd ∧
    decodeBus Config.hw false 0b1000000000000000000000000000000001000110#40 = .ok (.wrTxd 0x46#32) ∧
    decodeBus Config.hw false 0b0000000100000000000000000000000000000000#40 = .ok .rdIer ∧
    decodeBus Config.hw false 0b1000000100000000000000000000000000000001#40 = .ok (.wrIer 1#32) := by decide

/-- The same words with the latches open. -/
theorem test_decode_latches :
    decodeBus Config.hw true 0b0000000000000000000000000000000000000000#40 = .ok .rdDll ∧
    decodeBus Config.hw true 0b1000000000000000000000000000000001000110#40 = .ok (.wrDll 0x46#32) ∧
    decodeBus Config.hw true 0b0000000100000000000000000000000000000000#40 = .ok .rdDlh ∧
    decodeBus Config.hw true 0b1000000100000000000000000000000000000001#40 = .ok (.wrDlh 1#32) := by decide

/-- The registers that stand alone, with either value of the latch bit. -/
theorem test_decode_own (dle : Bool) :
    decodeBus Config.hw dle 0b0000001000000000000000000000000000000000#40 = .ok .rdFcr ∧
    decodeBus Config.hw dle 0b1000001000000000000000000000000000000110#40 = .ok (.wrFcr 6#32) ∧
    decodeBus Config.hw dle 0b0000001100000000000000000000000000000000#40 = .ok .rdLcr ∧
    decodeBus Config.hw dle 0b1000001100000000000000000000000010000000#40 = .ok (.wrLcr 0x80#32) ∧
    decodeBus Config.hw dle 0b0000010100000000000000000000000000000000#40 = .ok .rdLsr ∧
    decodeBus Config.hw dle 0b1000010100000000000000000000000000000000#40 = .ok (.wrLsr 0#32) ∧
    decodeBus Config.hw dle 0b0000100000000000000000000000000000000000#40 = .ok .rdMode ∧
    decodeBus Config.hw dle 0b1000100000000000000000000000000000000111#40 = .ok (.wrMode 7#32) := by
  cases dle <;> decide

/-- Words that decode to `NONE`. -/
theorem test_decode_reserved (dle : Bool) :
    decodeBus Config.hw dle 0x0400000000#40 = .error .reservedOffset ∧
    decodeBus Config.hw dle 0x8600000000#40 = .error .reservedOffset ∧
    decodeBus Config.hw dle 0x0700000000#40 = .error .reservedOffset ∧
    decodeBus Config.hw dle 0x0900000000#40 = .error .reservedOffset ∧
    decodeBus Config.hw dle 0xFF00000000#40 = .error .reservedOffset := by
  cases dle <;> decide

/-- The control words. -/
theorem test_decode_ctrl :
    decodeCtrl 0x0000000000000000#64 = .ok (.ctrlReset 0#32) ∧ decodeCtrl 0x00000000DEADBEEF#64 = .ok (.ctrlReset 0xDEADBEEF#32) ∧
    decodeCtrl 0x0000000100000000#64 = .ok (.ctrlGet 0#32) ∧ decodeCtrl 0x00000001DEADBEEF#64 = .ok (.ctrlGet 0xDEADBEEF#32) ∧
    decodeCtrl 0x0000000200000000#64 = .error .invalidOperation ∧
    decodeCtrl 0xFFFFFFFF00000000#64 = .error .invalidOperation := by decide

/-! ### States for the tests -/

/-- The state S0 of 95_test_vectors.md, with two contexts. -/
def s0 : State :=
  { State.reset with
    mode := 0x00#8
    lcr := 0x03#8
    dll := 0x1A#8
    dlh := 0x00#8
    ier := 0x01#8
    lifecycle := .running
    handlerAttached := true
    irqId := some 0
    procs := [Proc.idle, Proc.idle] }

/-- In extended mode. -/
def ext (s : State) : State := { s with mode := 0x07#8 }

/-- With the latches open. -/
def opened (s : State) : State := { s with lcr := 0x80#8 }

/-- With a byte to transmit. -/
def holding (b : Byte) (s : State) : State := { s with txHold := some b }

/-- With received bytes. -/
def received (bs : List Byte) (s : State) : State := { s with rxFifo := bs }

/-- With a schedule. -/
def scheduled (es : List Event) (s : State) : State := { s with schedule := es }

/-- With both contexts at given positions. -/
def placed (p q : Option OpSeq) (s : State) : State :=
  { s with procs := [{ seq := p, last := none }, { seq := q, last := none }] }

/-- A part of the next state. -/
def after {α : Type} (f : State → α) (o : Answer State) : Option α :=
  match o with
  | .next t => some (f t)
  | .fault _ => none
  | .refused _ => none

/-- The refusal, where there is one. -/
def refusal (o : Answer State) : Option Refusal :=
  match o with
  | .next _ => none
  | .fault _ => none
  | .refused r => some r

/-- The low byte of a read's result. -/
def lowResult (s : State) : Option Byte :=
  match s.result with
  | .word r => some (lowByte r)
  | .noValue | .count _ | .byte _ | .bytes _ | .raised _ => none

/-! ### Single transactions (section 2.2) -/

/-- A1, A2: only the transmit-ready bit is fixed. -/
theorem test_rdLsr : ∃ u free : Word,
    after State.result (exec .rdLsr s0) = some (.word u) ∧ anyBit u 0x20#8 = true ∧
    after State.result (exec .rdLsr (holding 0x46#8 s0)) = some (.word free) ∧ anyBit free 0x20#8 = false :=
  ⟨_, _, rfl, anyBit_lineStatus _ 0x20#8 _ true, rfl, anyBit_lineStatus _ 0x20#8 _ false⟩

/-- A4. -/
theorem test_wrLsr : refusal (exec (.wrLsr 0#32) s0) = some .reservedWrite := by decide

/-- A5, A6. -/
theorem test_wrTxd : after State.txHold (exec (.wrTxd 0xFFFFFF46#32) s0) = some (some 0x46#8) := by decide

/-- A8. -/
theorem test_wrTxd_overrun :
    after (fun t => (t.txHold, t.faults)) (exec (.wrTxd 0x42#32) (holding 0x41#8 s0)) =
      some (some 0x41#8, FaultSet.empty.add .txOverrun) := by decide

/-- A10. -/
theorem test_rdRxd : after lowResult (exec .rdRxd (received [0x68#8] s0)) = some (some 0x68#8) ∧
    after (fun t => (t.rxFifo, t.irq)) (exec .rdRxd (received [0x68#8] s0)) = some ([], false) :=
  ⟨congrArg (fun b => some (some b)) (lowByte_readResult _ _), by decide⟩

/-- A11: an empty holding records no fault. -/
theorem test_rdRxd_empty : after (fun t => (t.rxFifo, t.faults)) (exec .rdRxd s0) = some ([], FaultSet.empty) := by decide

/-- A16 to A20. -/
theorem test_wrLcr_values :
    after State.lcr (exec (.wrLcr 0x83#32) (ext s0)) = some 0x83#8 ∧ after State.lcr (exec (.wrLcr 0x82#32) (ext s0)) = some 0x82#8 ∧
    refusal (exec (.wrLcr 0x00#32) (ext s0)) = some .reservedValue ∧
    refusal (exec (.wrLcr 0x02#32) (ext s0)) = some .reservedValue ∧
    refusal (exec (.wrLcr 0x1B#32) (ext s0)) = some .reservedValue ∧
    refusal (exec (.wrLcr 0x43#32) (ext s0)) = some .reservedValue := by decide

/-- A21, A22: the refusal comes before the fault. -/
theorem test_wrLcr_normal :
    after (fun t => (t.lcr, t.faults)) (exec (.wrLcr 0x80#32) s0) = some (0x80#8, FaultSet.empty.add .configOutsideExtended) ∧
    refusal (exec (.wrLcr 0x1B#32) s0) = some .reservedValue := by decide

/-- A24, A40, A45. -/
theorem test_reads :
    after lowResult (exec .rdLcr s0) = some (some 0x03#8) ∧ after lowResult (exec .rdIer s0) = some (some 0x01#8) ∧
    after lowResult (exec .rdMode (ext s0)) = some (some 0x07#8) :=
  ⟨congrArg (fun b => some (some b)) (lowByte_readResult _ _), congrArg (fun b => some (some b)) (lowByte_readResult _ _),
    congrArg (fun b => some (some b)) (lowByte_readResult _ _)⟩

/-- A13, A28: with the latches open the same words read the latches, and the received byte stays. -/
theorem test_latch_reads :
    after lowResult (transact 0x0000000000#40 (opened (received [0x68#8] s0))) = some (some 0x1A#8) ∧
    after State.rxFifo (transact 0x0000000000#40 (opened (received [0x68#8] s0))) = some [0x68#8] ∧
    after lowResult (transact 0x0100000000#40 { opened s0 with dlh := 0x09#8 }) = some (some 0x09#8) :=
  ⟨congrArg (fun b => some (some b)) (lowByte_readResult _ _), by decide,
    congrArg (fun b => some (some b)) (lowByte_readResult _ _)⟩

/-- A25, A26. -/
theorem test_wrDll :
    after (fun t => (t.dll, t.txHold, t.faults)) (transact 0x800000001A#40 (ext (opened { s0 with dll := 0x55#8 }))) =
      some (0x1A#8, none, FaultSet.empty) ∧
    after (fun t => (t.dll, t.faults)) (exec (.wrDll 0x1A#32) (opened s0)) =
      some (0x1A#8, FaultSet.empty.add .configOutsideExtended) := by decide

/-- A27. -/
theorem test_wrDlh :
    after (fun t => (t.dlh, t.ier)) (transact 0x8100000001#40 (ext (opened { s0 with ier := 0x00#8 }))) =
      some (0x01#8, 0x00#8) := by decide

/-- A29 to A32. -/
theorem test_wrFcr :
    let s := holding 0x41#8 (received [0x0D#8] s0)
    after (fun t => (t.txHold, t.rxFifo)) (exec (.wrFcr 6#32) s) = some (none, []) ∧
    after (fun t => (t.txHold, t.rxFifo)) (exec (.wrFcr 2#32) s) = some (some 0x41#8, []) ∧
    after (fun t => (t.txHold, t.rxFifo)) (exec (.wrFcr 4#32) s) = some (none, [0x0D#8]) ∧
    after (fun t => (t.txHold, t.rxFifo)) (exec (.wrFcr 0#32) s) = some (some 0x41#8, [0x0D#8]) := by decide

/-- A33. -/
theorem test_wrFcr_refused :
    refusal (exec (.wrFcr 0x01#32) s0) = some .reservedValue ∧ refusal (exec (.wrFcr 0x07#32) s0) = some .reservedValue ∧
    refusal (exec (.wrFcr 0xC6#32) s0) = some .reservedValue := by decide

/-- A35: a read of FIFO Control changes no register. -/
theorem test_rdFcr : after (fun t => (t.rxFifo, t.txHold, t.faults)) (exec .rdFcr (received [0x0D#8] s0)) =
    some ([0x0D#8], none, FaultSet.empty) := by decide

/-- A37, A38. -/
theorem test_wrIer :
    after State.irq (exec (.wrIer 1#32) (received [0x41#8] { s0 with ier := 0x00#8 })) = some true ∧
    after (fun t => (t.irq, t.rxFifo)) (exec (.wrIer 0#32) (received [0x41#8] s0)) = some (false, [0x41#8]) := by decide

/-- A39. -/
theorem test_wrIer_refused :
    refusal (exec (.wrIer 0x02#32) s0) = some .reservedValue ∧ refusal (exec (.wrIer 0x81#32) s0) = some .reservedValue := by decide

/-- A42, A43, A44. -/
theorem test_wrMode :
    after State.mode (exec (.wrMode 0#32) (ext s0)) = some 0x00#8 ∧
    after State.mode (exec (.wrMode 0xFFFFFF07#32) s0) = some 0x07#8 ∧
    refusal (exec (.wrMode 0x06#32) s0) = some .reservedValue := by decide

/-- A46. -/
theorem test_reservedOffset :
    refusal (transact (busWord false 4 0#32) s0) = some .reservedOffset ∧
    refusal (transact (busWord true 6 0#32) s0) = some .reservedOffset ∧
    refusal (transact (busWord false 127 0#32) s0) = some .reservedOffset := by decide

/-- A47, A48: the mapping is tested before the decoding. -/
theorem test_unmapped :
    after (fun t => (t.faults, t.result)) (transact 0x0500000000#40 State.reset) =
      some (FaultSet.empty.add .unmappedAccess, .raised .ioFault) ∧
    after (fun t => (t.txHold, t.result)) (transact 0x8000000046#40 { s0 with lifecycle := .registersUnmapped }) =
      some (none, .raised .ioFault) := by decide

/-- K1, K2. -/
theorem test_ctrlReset : after State.txCounter (transactCtrl 0x00000000FFFFFFFF#64 { s0 with txCounter := 7 }) = some 0 := by decide

/-- K3, K6. -/
theorem test_ctrlGet :
    after (fun t => (t.result, t.txCounter)) (transactCtrl 0x0000000100000000#64 { s0 with txCounter := 7 }) = some (.count 7, 7) ∧
    after (fun t => (t.result, t.txCounter)) (transactCtrl 0x0000000200000000#64 { s0 with txCounter := 7 }) =
      some (.raised .invalidOperation, 7) := by decide

/-! ### Single steps of the agents -/

/-- T4: the counter wraps at `COUNT`. -/
theorem test_count_wraps :
    after State.txCounter (step (scheduled [.proc 0]
      (placed (some (.tx { writeCharJob 0x00#8 with label := .count })) none { s0 with txCounter := 0xFFFFFFFF }))) = some 0 := by
  decide

/-- A9, T3: the transmitter does not move in extended mode. -/
theorem test_drain :
    after (fun t => (t.txLine, t.txHold)) (step (scheduled [.drain] (holding 0x41#8 s0))) = some ([0x41#8], none) ∧
    after (fun t => (t.txLine, t.txHold)) (step (scheduled [.drain] (ext (holding 0x41#8 s0)))) = some ([], some 0x41#8) := by decide

/-- X20: a byte that finds the holding full is lost. -/
theorem test_arrive_overrun :
    after (fun t => (t.rxFifo, t.rxLine, t.faults)) (step (scheduled [.arrive] (received [0x68#8] { s0 with rxLine := [0x69#8] }))) =
      some ([0x68#8], [], FaultSet.empty.add .rxHwOverrun) := by decide

/-- Section 2.7. -/
theorem test_entry :
    after State.handler (step (scheduled [.entry] (received [0x68#8] s0))) = some (some .recv) ∧
    after State.handler (step (scheduled [.entry] (ext (received [0x68#8] s0)))) = some (some .recv) ∧
    after State.handler (step (scheduled [.entry] (received [0x68#8] { s0 with ier := 0x00#8 }))) = some none ∧
    after State.handler (step (scheduled [.entry] (received [0x68#8] { s0 with handlerAttached := false }))) = some none := by decide

/-- E2: the sixteenth byte makes the buffer read as empty. -/
theorem test_enqueue_wraps :
    after (fun t => (t.writeCursor, t.notEmpty, t.storage.getLast?)) (step (scheduled [.handler]
      { s0 with writeCursor := 15, inHandler := true, handler := some (.enq 0x50#8) })) = some (0, false, some 0x50#8) := by decide

/-- X16: a cancelled read consumes nothing. -/
theorem test_cancel :
    after (fun t => (t.readCursor, t.procs.head?)) (step (scheduled [.cancel 0]
      (placed (some (.popWait true)) none { s0 with readCursor := 7, writeCursor := 7 }))) =
      some (7, some { seq := none, last := some (.raised .interrupted) }) := by decide

/-- Section 2.6. -/
theorem test_divisor :
    { Config.hw with clockHz := 1843199#32 }.valid = false ∧ { Config.hw with clockHz := 1843200#32 }.divisor = 1 ∧
    { Config.hw with clockHz := 3686399#32 }.divisor = 1 ∧ { Config.hw with clockHz := 471859200#32 }.divisor = 256 ∧
    divisorHigh 256 = 0x01#8 ∧ divisorLow 256 = 0x00#8 ∧
    divisorHigh { Config.hw with clockHz := 4294967295#32 }.divisor = 0x09#8 ∧
    divisorLow { Config.hw with clockHz := 4294967295#32 }.divisor = 0x1A#8 := by decide

/-- R191: the first step of a second `INIT` is refused while another one is past its own; one that has not begun stops nobody. -/
theorem test_init_once :
    let s := { s0 with lifecycle := .registersMapped }
    refusal (step (scheduled [.proc 0] (placed (some (.init .i1)) (some (.init .i4)) s))) = some .badLifecycle ∧
    after (fun t => t.seqOf 0) (step (scheduled [.proc 0] (placed (some (.init .i1)) (some (.init .i1)) s))) =
      some (some (.init .i2)) := by decide

/-- R240: a created instance has no fault recorded, its counter and its cursors are zero. -/
theorem test_create :
    after (fun t => (t.faults, t.txCounter, t.writeCursor)) (step (scheduled [.platform .create]
      { State.reset with faults := FaultSet.empty.add .rxHwOverrun, txCounter := 7, writeCursor := 3 })) =
      some (FaultSet.empty, 0, 0) := by decide

/-- Section 2.8. -/
theorem test_lifecycle :
    refusal (step (scheduled [.proc 0] (placed (some (.init .i1)) none s0))) = some .badLifecycle ∧
    refusal (step (scheduled [.proc 0] (placed (some (.teardown .t1 none)) (some (.popWait true)) s0))) = some .badLifecycle ∧
    after State.lifecycle (step (scheduled [.proc 0] (placed (some (.teardown .t1 none)) none s0))) =
      some .interruptsDisabled := by decide

/-- The word that `withFetchWord` places is the next thing run, from reset too. -/
theorem test_withFetchWord :
    after State.txHold (step (State.reset.withFetchWord 40 0x8000000046)) = some (some 0x46#8) ∧
    after State.mode (step (State.reset.withFetchWord 40 0x8800000000)) = some 0x00#8 ∧
    decodeTableWord 40 0x8000000046 = some (.wrTxd 0x46#32) ∧
    decodeTableWord 64 0x100000000 = some (.ctrlGet 0#32) := by decide

/-! ### Witnesses: states and operands that meet all hypotheses of a statement, clause by clause -/

/-- An answer that is a next state has one. -/
theorem next_of {o : Answer State} (h : (after id o).isSome = true) : ∃ t, o = .next t := by
  cases o <;> simp_all [after]

/-- Context 0 writing, at a label. -/
def writing (l : TxLabel) (b : Byte) (s : State) : State := placed (some (.tx { writeCharJob b with label := l })) none s

/-- The invariant holds in S0. -/
theorem witness_invariant : StateInv s0 := by constructor <;> decide

theorem witness_RdLsrShowsTransmitReady : s0.cfg.lsrTxrdy.getLsbD 5 = true ∧ s0.cfg.lsrTxrdy.getLsbD 0 = false ∧
    s0.cfg.lsrTxrdy.getLsbD 7 = false := by decide

theorem witness_WrTxdFillsHoldingOrOverruns : s0.txHold = none ∧ (holding 0x41#8 s0).txHold = some 0x41#8 := by decide

theorem witness_RdRxdTakesOldestByte : (received [0x68#8] s0).rxFifo = 0x68#8 :: [] ∧ s0.rxFifo = [] := by decide

/-- A refused value, one stored in extended mode and one stored outside it. -/
theorem witness_WrLcrStoresOrRefuses : lcrAccepted s0.cfg 0x02#8 = false ∧ lcrAccepted s0.cfg 0x80#8 = true ∧
    (ext s0).mode = (ext s0).cfg.modeExt ∧ s0.mode ≠ s0.cfg.modeExt ∧ s0.cfg = Config.hw := by decide

theorem witness_WrFcrClearsHoldings :
    (0x01#8 &&& ~~~(s0.cfg.fcrClrRx ||| s0.cfg.fcrClrTx)) ≠ 0x00#8 ∧ (0x06#8 &&& ~~~(s0.cfg.fcrClrRx ||| s0.cfg.fcrClrTx)) = 0x00#8 := by
  decide

theorem witness_WrIerStoresAndRecomputesIrq :
    (0x02#8 &&& ~~~s0.cfg.ierRdi) ≠ 0x00#8 ∧ (0x01#8 &&& ~~~s0.cfg.ierRdi) = 0x00#8 := by decide

theorem witness_WrModeStoresOrRefuses :
    0x07#8 = s0.cfg.modeExt ∧ 0x00#8 = s0.cfg.modeNormal ∧ 0x06#8 ≠ s0.cfg.modeExt ∧ 0x06#8 ≠ s0.cfg.modeNormal := by decide

theorem witness_OtherControlWordsAreInvalid : (2#32 ≠ 0#32 ∧ 2#32 ≠ 1#32) ∧
    (∃ t, transactCtrl (ctrlWord 0#32 0#32) s0 = .next t) ∧ (∃ t, transactCtrl (ctrlWord 1#32 0#32) s0 = .next t) :=
  ⟨by decide, next_of (by decide), next_of (by decide)⟩

/-- Unmapped and mapped; a raw line, a `WRITE_CHAR`, an `INIT` and a handler at `RECV`, each on unmapped registers. -/
theorem witness_UnmappedTransactionIsIOFault :
    let s := scheduled [.proc 0] { s0 with lifecycle := .registersUnmapped }
    State.reset.mapped = false ∧ s0.mapped = true ∧ (∃ t, transact 0x0500000000#40 s0 = .next t) ∧
    s.cfg.valid = true ∧ s.processMayStep = true ∧ s.registerLock = none ∧ s.mapped = false ∧ s.schedule = .proc 0 :: [] ∧
    (placed (some (.bus 0x0500000000#40)) none s).seqOf 0 = some (.bus 0x0500000000#40) ∧
    (placed (some (.tx (writeCharJob 0x41#8))) none s).seqOf 0 = some (.tx (writeCharJob 0x41#8)) ∧
    (writeCharJob 0x41#8).label ≠ .count ∧ (placed (some (.init .i1)) none s).seqOf 0 = some (.init .i1) ∧
    { s with handler := some .recv }.handler = some .recv ∧ (scheduled [.handler] s).schedule = .handler :: [] :=
  ⟨by decide, by decide, next_of (by decide), by decide, by decide, rfl, by decide, rfl, rfl, rfl, by decide, rfl, rfl, rfl⟩

/-- The offsets at the edges of the reserved ranges. -/
theorem witness_ReservedOffsetsAreRefused : s0.cfg = Config.hw ∧ s0.mapped = true ∧ busOffset 0x0400000000#40 = 4 ∧
    busOffset 0x0600000000#40 = 6 ∧ busOffset 0x8800000000#40 = 8 ∧ busOffset 0x0900000000#40 = 9 ∧ busOffset 0x7F00000000#40 = 127 := by
  decide

theorem witness_TransactionsLeaveTheBlockAlone :
    Instr.access (.wrTxd 0x46#32) ≠ none ∧ ∃ t, exec (.wrTxd 0x46#32) s0 = .next t := ⟨by decide, next_of (by decide)⟩

theorem witness_UpperWriteBitsAreIgnored : (0xFFFFFF46#32).extractLsb' 0 8 = (0x00000046#32).extractLsb' 0 8 := by decide

theorem witness_StepRunsTheDecodedTransaction :
    let s := scheduled [.proc 0] (placed (some (.bus 0x8000000046#40)) none s0)
    s.cfg.valid = true ∧ s.schedule = .proc 0 :: [] ∧ s.seqOf 0 = some (.bus 0x8000000046#40) ∧ s.processMayStep = true ∧
    s.registerLock = none ∧ s.mapped = true ∧ decodeBus s.cfg s.dle 0x8000000046#40 = .ok (.wrTxd 0x46#32) := by decide

theorem witness_StepRunsTheDecodedControl :
    let s := scheduled [.proc 1] (placed none (some (.ctrl 0x0000000100000000#64)) s0)
    s.cfg.valid = true ∧ s.schedule = .proc 1 :: [] ∧ s.seqOf 1 = some (.ctrl 0x0000000100000000#64) ∧ s.processMayStep = true ∧
    decodeCtrl 0x0000000100000000#64 = .ok (.ctrlGet 0#32) := by decide

theorem witness_DecodeOfEncodeIsTheInstruction : Config.hw.valid = true ∧ (Instr.wrIer 1#32).wellFormed Config.hw false = true ∧
    (Instr.wrDlh 1#32).wellFormed Config.hw true = true := by decide

/-- One configuration for each constraint. -/
theorem witness_BadConfigurationIsRefused :
    { Config.hw with capacity := 1 }.capacity < 2 ∧ { Config.hw with modeExt := 0x00#8 }.modeExt = Config.hw.modeNormal ∧
    { Config.hw with rxDepth := 0 }.rxDepth < 1 ∧ { Config.hw with nCores := 0 }.nCores < 1 ∧
    { Config.hw with stride := 2 }.stride ≠ 4 ∧ { Config.hw with regBits := 16 }.regBits ≠ 32 ∧
    { Config.hw with offLsr := 3 }.offLcr = 3 ∧ (moved 0 0 0 1 1 2).offFcr = (moved 0 0 0 1 1 2).offMode ∧
    3 ∈ [(moved 0 0 0 1 3 8).offRxd, 0, 0, 1, (moved 0 0 0 1 3 8).offIer] ∧ 128 ≤ (moved 0 0 0 1 1 128).offMode ∧
    128 ≤ (moved 0 0 0 128 1 8).offDlh ∧ 65535 < (4294967295#32).toNat / 16 / 1 ∧
    ({ Config.hw with lcrDle := 0x02#8 }.lcrWlenMask &&& 0x02#8) ≠ 0x00#8 ∧
    ({ Config.hw with fcrClrTx := 0x02#8 }.fcrClrRx &&& 0x02#8) ≠ 0x00#8 ∧
    (1843199#32).toNat / 16 / Config.hw.baud < 1 ∧ { Config.hw with base := 2 }.base % 4 ≠ 0 := by decide

theorem witness_SlotAddressesAreAligned : { Config.hw with base := 4 }.valid = true := by decide

theorem witness_ResetMeetsTheInvariant : Config.hw.valid = true ∧
    (ResetDraws.named Config.hw).storage.length = Config.hw.capacity ∧
    (ResetDraws.named Config.hw).rxFifo.length ≤ Config.hw.rxDepth := by decide

/-- One step for the statements about every step. -/
theorem witness_EveryStepKeepsTheInvariant : StateInv (scheduled [.drain] (holding 0x41#8 s0)) ∧
    ∃ t, step (scheduled [.drain] (holding 0x41#8 s0)) = .next t := ⟨by constructor <;> decide, next_of (by decide)⟩

theorem witness_FaultsOnlyGrow : (∃ t, step (scheduled [.arrive] s0) = .next t) ∧
    ∃ t, step (scheduled [.platform .create] State.reset) = .next t := ⟨next_of (by decide), next_of (by decide)⟩

/-- A step that moves a byte to the output line, and one that takes a byte from the input line. -/
theorem witness_LinesMoveOneWay :
    (∃ t, step (scheduled [.drain] (holding 0x41#8 s0)) = .next t ∧ t.txLine = [0x41#8]) ∧
    (∃ t, step (scheduled [.arrive] { s0 with rxLine := [0x68#8] }) = .next t ∧ t.rxLine = []) :=
  ⟨⟨_, rfl, rfl⟩, ⟨_, rfl, rfl⟩⟩

theorem witness_ParametersNeverChange : ∃ t, step (scheduled [.spawn] s0) = .next t := next_of (by decide)

/-- Each way for the counter to move. -/
theorem witness_CounterMovesOnlyByItsOperations :
    (∃ t, step (scheduled [.proc 0] (writing .count 0x41#8 s0)) = .next t ∧ t.txCounter ≠ 0) ∧
    (∃ t, step (scheduled [.proc 0] (placed (some (.ctrl 0#64)) none { s0 with txCounter := 7 })) = .next t ∧ t.txCounter ≠ 7) ∧
    (∃ t, step (scheduled [.platform .create] { State.reset with txCounter := 7 }) = .next t ∧ t.txCounter ≠ 7) :=
  ⟨⟨_, rfl, by decide⟩, ⟨_, rfl, by decide⟩, ⟨_, rfl, by decide⟩⟩

/-- An enqueue and a dequeue. -/
theorem witness_BufferChangesOnlyAtEnqAndDeq :
    (∃ t, step (scheduled [.handler] { s0 with inHandler := true, handler := some (.enq 0x68#8) }) = .next t ∧ t.writeCursor = 1) ∧
    (∃ t, step (scheduled [.proc 0] (placed (some (.popDeq true)) none { s0 with writeCursor := 1 })) = .next t ∧ t.readCursor = 1) ∧
    (scheduled [.handler] s0).schedule.head? ≠ some (.platform .create) :=
  ⟨⟨_, rfl, rfl⟩, ⟨_, rfl, rfl⟩, by decide⟩

theorem witness_LifecycleMovesAlongItsTransitions :
    ∃ t, step (scheduled [.platform .map] State.reset) = .next t ∧ t.lifecycle = .registersMapped := ⟨_, rfl, rfl⟩

theorem witness_ReservedBitsComeOnlyFromReset :
    ∃ t, step (scheduled [.proc 0] (placed (some (.bus 0x8800000007#40)) none s0)) = .next t ∧ t.mapped = true ∧ t.mode = 0x07#8 :=
  ⟨_, rfl, rfl, rfl⟩

theorem witness_InstancesShareNothing : ∃ sys', stepInstance 0 [scheduled [.spawn] s0, s0] = .next sys' ∧ 1 ≠ 0 := ⟨_, rfl, by decide⟩

theorem witness_DrainMovesTheHeldByte :
    let s := scheduled [.drain] (holding 0x41#8 s0)
    s.cfg.valid = true ∧ s.schedule = .drain :: [] ∧ s.txHold = some 0x41#8 ∧ s.mode = s.cfg.modeNormal ∧
    (scheduled [.drain] s0).txHold = none ∧ (ext s).mode ≠ s.cfg.modeNormal ∧ (ext s).mode = s.cfg.modeExt := by decide

theorem witness_PollSpinsWhileAByteIsHeld :
    let s := scheduled (List.replicate 3 (.proc 0) ++ []) (holding 0x41#8 (writing .poll 0x42#8 s0))
    s.cfg.valid = true ∧ s.mapped = true ∧ s.processMayStep = true ∧ s.registerLock = none ∧ s.txHold = some 0x41#8 ∧
    s.seqOf 0 = some (.tx (writeCharJob 0x42#8)) ∧ (writeCharJob 0x42#8).label = .poll ∧
    s.schedule = List.replicate 3 (.proc 0) ++ [] := by decide

theorem witness_WriteStrSendsLineFeedCarriageReturn :
    let bs : List Byte := [0x61#8, 0x0A#8]
    let out : List Byte := bs.flatMap (fun b => if b = 0x0A#8 then [0x0A#8, 0x0D#8] else [b])
    let s := scheduled (.start 0 (.writeStr bs) ::
      ((List.replicate out.length [Event.proc 0, Event.proc 0, Event.proc 0, Event.drain]).flatten ++ [])) s0
    StateInv s ∧ s.cfg.valid = true ∧ s.cfg.lsrTxrdy ≠ 0x00#8 ∧ s.mapped = true ∧ s.mode = s.cfg.modeNormal ∧ s.dle = false ∧
    s.txHold = none ∧ s.processMayStep = true ∧ (∃ p : Proc, s.procs[0]? = some p ∧ p.seq = none) ∧
    s.schedule = .start 0 (.writeStr bs) ::
      ((List.replicate out.length [Event.proc 0, Event.proc 0, Event.proc 0, Event.drain]).flatten ++ []) := by
  refine ⟨by constructor <;> decide, by decide, by decide, by decide, by decide, by decide, by decide, by decide,
    ⟨_, rfl, rfl⟩, rfl⟩

/-- In a state with one busy context every position is that context's. -/
theorem only_zero {q : OpSeq} {s : State} {k : Nat} {r : OpSeq} (h : (placed (some q) none s).seqOf k = some r) : k = 0 ∧ r = q := by
  match k with
  | 0 => exact ⟨rfl, (Option.some.inj h).symm⟩
  | 1 => cases h
  | n + 2 => simp [State.seqOf, placed] at h

theorem witness_OneWriterNeverOverruns :
    let s := scheduled [.proc 0] (writing .send 0x41#8 s0)
    (∃ t, step s = .next t ∧ t.txHold = some 0x41#8) ∧ s.lifecycle = .running ∧ SingleWriter s ∧ NoRawAccess s ∧ PolledHoldingEmpty s := by
  refine ⟨⟨_, rfl, rfl⟩, rfl, ?_, ?_, ?_⟩
  · intro k k' j j' h h'
    rw [(only_zero (s := scheduled [.proc 0] s0) h).1, (only_zero (s := scheduled [.proc 0] s0) h').1]
  · intro k q h
    rw [(only_zero (s := scheduled [.proc 0] s0) h).2]
    simp
  · intro k j h hl
    rfl

theorem witness_TwoWritersOverrun :
    let s := scheduled [.proc 0, .proc 1, .proc 0, .proc 1]
      (placed (some (.tx (writeCharJob 0x41#8))) (some (.tx (writeCharJob 0x42#8))) s0)
    s.cfg.valid = true ∧ s.cfg.lsrTxrdy ≠ 0x00#8 ∧ s.mapped = true ∧ s.dle = false ∧ s.processMayStep = true ∧
    s.registerLock = none ∧ s.txHold = none ∧ s.seqOf 0 = some (.tx (writeCharJob 0x41#8)) ∧
    s.seqOf 1 = some (.tx (writeCharJob 0x42#8)) ∧ (writeCharJob 0x41#8).label = .poll ∧
    s.schedule = .proc 0 :: .proc 1 :: .proc 0 :: .proc 1 :: [] := by decide

/-- A run in which the transmitter alone moves. -/
def drainRun : Nat → State
  | 0 => holding 0x41#8 { s0 with cfg := { Config.hw with txFair := true } }
  | _ + 1 => { s0 with cfg := { Config.hw with txFair := true }, txLine := [0x41#8] }

theorem witness_FairTransmitterEmptiesTheHolding :
    IsRun (fun _ => .drain) drainRun ∧ TxFair (fun _ => .drain) drainRun ∧ (drainRun 0).cfg.txFair = true ∧
    (∀ n : Nat, (drainRun n).mode = (drainRun n).cfg.modeNormal) ∧ (drainRun 0).txHold ≠ none := by
  refine ⟨⟨fun n => ?_⟩, fun _ n _ => ⟨n, Nat.le_refl n, rfl⟩, rfl, fun n => ?_, by decide⟩
  · cases n <;> rfl
  · cases n <;> rfl

theorem witness_SendWithLatchesOpenWritesTheDivisor :
    let s := scheduled [.proc 0] (opened (writing .send 0x46#8 s0))
    s.cfg.valid = true ∧ s.cfg.offTxd = s.cfg.offDll ∧ s.dle = true ∧ s.mode = s.cfg.modeNormal ∧ s.mapped = true ∧
    s.processMayStep = true ∧ s.registerLock = none ∧
    s.seqOf 0 = some (.tx { writeCharJob 0x46#8 with label := .send }) ∧ s.schedule = .proc 0 :: [] := by decide

/-- The four cases of an arrival. -/
theorem witness_ArrivalIsHeldOrLost :
    let s := scheduled [.arrive] { s0 with rxLine := [0x68#8] }
    s.cfg.valid = true ∧ s.schedule = .arrive :: [] ∧ (scheduled [.arrive] s0).rxLine = [] ∧ s.rxLine = 0x68#8 :: [] ∧
    (ext s).mode ≠ s.cfg.modeNormal ∧ s.mode = s.cfg.modeNormal ∧ s.rxFifo.length < s.cfg.rxDepth ∧
    s.cfg.rxDepth ≤ (received [0x67#8] s).rxFifo.length := by decide

/-- The rows of section 2.7: enabled, and one state for each mask. -/
theorem witness_InterruptEntryIsMaskedThreeWays :
    let s := scheduled [.entry] (received [0x68#8] s0)
    s.cfg.valid = true ∧ s.schedule = .entry :: [] ∧
    (s.rxFifo ≠ [] ∧ (s.ier &&& s.cfg.ierRdi) ≠ 0x00#8 ∧ s.handlerAttached = true ∧ s.inHandler = false) ∧
    s0.rxFifo = [] ∧ (0x00#8 &&& s.cfg.ierRdi) = 0x00#8 := by decide

theorem witness_HandlerMovesOneByteToTheBuffer :
    let s := scheduled [.handler, .handler, .handler, .handler] (received [0x68#8] { s0 with inHandler := true, handler := some .recv })
    s.cfg.valid = true ∧ s.mapped = true ∧ s.dle = false ∧ s.bufferLock = none ∧ s.handler = some .recv ∧
    s.rxFifo = 0x68#8 :: [] ∧ s.schedule = .handler :: .handler :: .handler :: .handler :: [] := by decide

theorem witness_NoProcessStepInsideTheHandlerOnOneCore :
    let s := { scheduled [.proc 0] s0 with inHandler := true, handler := some .recv }
    s.cfg.valid = true ∧ s.cfg.nCores = 1 ∧ s.inHandler = true ∧ s.schedule = .proc 0 :: [] ∧
    (scheduled [.start 0 .pop] s).schedule = .start 0 .pop :: [] := by decide

/-- Room for one more byte, the byte that wraps, and a buffer with a byte. -/
theorem witness_BufferIsAQueueThatWrapsToEmpty :
    s0.storage.length = s0.cfg.capacity ∧ s0.readCursor < s0.cfg.capacity ∧ s0.writeCursor < s0.cfg.capacity ∧
    s0.avail + 1 < s0.cfg.capacity ∧ { s0 with writeCursor := 15 }.avail + 1 = s0.cfg.capacity ∧
    { s0 with writeCursor := 15 }.notEmpty = true ∧ s0.notEmpty = false := by decide

theorem witness_OverflowKeepsTheNewestBytes :
    s0.storage.length = s0.cfg.capacity ∧ s0.writeCursor < s0.cfg.capacity ∧ s0.readCursor = s0.writeCursor := by decide

theorem witness_PopWaitsThenTakesTheFrontByte :
    let s := scheduled [.proc 0, .proc 0] (placed (some (.popWait true)) none s0)
    StateInv s ∧ s.cfg.valid = true ∧ s.processMayStep = true ∧ s.seqOf 0 = some (.popWait true) ∧
    s.schedule = .proc 0 :: .proc 0 :: [] ∧ s.readCursor = s.writeCursor ∧
    StateInv { s with writeCursor := 1 } ∧ { s with writeCursor := 1 }.readCursor ≠ 1 := by
  refine ⟨by constructor <;> decide, by decide, by decide, by decide, by decide, by decide, by constructor <;> decide, by decide⟩

/-- An operation at `WAIT`, and one past it. -/
theorem witness_CancelConsumesNoByte :
    let s := scheduled [.cancel 0] (placed (some (.popWait true)) none s0)
    s.cfg.valid = true ∧ s.schedule = .cancel 0 :: [] ∧ s.seqOf 0 = some (.popWait true) ∧
    ∀ asRead : Bool, (placed (some (.popDeq true)) none s).seqOf 0 ≠ some (.popWait asRead) := by decide

theorem witness_EmptyOperationsEndAtOnce :
    let s := scheduled [.start 1 (.read 0)] s0
    s.cfg.valid = true ∧ s.processMayStep = true ∧ s.procs[1]? = some Proc.idle ∧ Proc.idle.seq = none ∧
    s.schedule = .start 1 (.read 0) :: [] ∧ (scheduled [.start 1 (.writeStr [])] s).schedule = .start 1 (.writeStr []) :: [] ∧
    (scheduled [.start 1 (.read (0 + 1))] s).schedule = .start 1 (.read (0 + 1)) :: [] := by decide

theorem witness_TwoReadersRace :
    let s := scheduled [.proc 0, .proc 1, .proc 0, .proc 1]
      (placed (some (.popWait true)) (some (.popWait true)) { s0 with writeCursor := 1 })
    StateInv s ∧ s.cfg.valid = true ∧ s.processMayStep = true ∧ s.avail = 1 ∧ s.seqOf 0 = some (.popWait true) ∧
    s.seqOf 1 = some (.popWait true) ∧ s.schedule = .proc 0 :: .proc 1 :: .proc 0 :: .proc 1 :: [] := by
  refine ⟨by constructor <;> decide, by decide, by decide, by decide, by decide, by decide, by decide⟩

theorem witness_OneReaderAlwaysHasItsByte :
    let s := scheduled [.proc 0] (placed (some (.popWait true)) none { s0 with writeCursor := 1 })
    (∃ t, step s = .next t ∧ t.seqOf 0 = some (.popDeq true)) ∧ StateInv s ∧ SingleReader s ∧ WokenReaderHasByte s ∧
    s.lifecycle = .running ∧
    (∀ b : Byte, s.schedule.head? = some .handler → s.handler = some (.enq b) → s.avail + 1 < s.cfg.capacity) ∧
    { s with writeCursor := 15 }.avail + 1 = s.cfg.capacity ∧ { s with writeCursor := 14 }.avail + 1 < s.cfg.capacity := by
  refine ⟨⟨_, rfl, rfl⟩, by constructor <;> decide, ?_, ?_, rfl, (fun b h => by cases h), by decide, by decide⟩
  · intro k k' q q' h h' _ _
    rw [(only_zero (s := scheduled [.proc 0] { s0 with writeCursor := 1 }) h).1,
      (only_zero (s := scheduled [.proc 0] { s0 with writeCursor := 1 }) h').1]
  · intro k asRead h
    rfl

theorem witness_DivisorFormula : Config.hw.baud = 115200 ∧ (65535 : Nat) ≤ 65535 ∧ (0 : Nat) ≤ 65535 := by decide

/-- P1: arbitrary registers and holdings at the start. -/
theorem witness_InitEndsInTheConfiguredState :
    let s := { State.reset with
      mode := 0xA5#8, lcr := 0xFF#8, dll := 0x55#8, dlh := 0xAA#8, ier := 0xFF#8, txHold := some 0x99#8, rxFifo := [0x77#8]
      lifecycle := .registersMapped, procs := [Proc.idle]
      schedule := .start 0 .init :: (List.replicate 9 (Event.proc 0) ++ []) }
    s.cfg.Separated ∧ s.lifecycle = .registersMapped ∧ s.registerLock = none ∧ s.processMayStep = true ∧
    (∃ p : Proc, s.procs[0]? = some p ∧ p.seq = none) ∧
    (∀ (m : Nat) (l : InitLabel), s.seqOf m = some (.init l) → l = .i1) ∧
    s.schedule = .start 0 .init :: (List.replicate 9 (Event.proc 0) ++ []) := by
  refine ⟨by constructor <;> decide, rfl, rfl, by decide, ⟨_, rfl, rfl⟩, ?_, rfl⟩
  intro m l h
  match m with
  | 0 => cases h
  | n + 1 => cases h

theorem witness_InitInTheWrongStateIsRefused :
    let s := scheduled [.proc 0] (placed (some (.init .i1)) none s0)
    s.cfg.valid = true ∧ s.processMayStep = true ∧ s.seqOf 0 = some (.init .i1) ∧ s.schedule = .proc 0 :: [] ∧
    InitLabel.i1 ∈ [InitLabel.i1, .i2, .i3, .i4, .i5, .i6, .i7] ∧ s.lifecycle ≠ .registersMapped ∧
    (placed (some (.init .i9)) none s).seqOf 0 = some (.init .i9) ∧ InitLabel.i9 ∈ [InitLabel.i8, .i9] ∧
    s.lifecycle ≠ .hardwareConfigured ∧
    (placed (some (.init .i1)) (some (.init .i2)) s).seqOf 1 = some (.init .i2) ∧ InitLabel.i2 ≠ .i1 := by decide

theorem witness_TeardownReversesBringUp :
    let s := scheduled (.start 0 .teardown :: .proc 0 :: .proc 0 :: .proc 0 :: .proc 0 :: []) s0
    s.cfg.valid = true ∧ s.lifecycle = .running ∧ s.inHandler = false ∧ s.quiescent = true ∧ s.procs[0]? = some Proc.idle ∧
    s.schedule = .start 0 .teardown :: .proc 0 :: .proc 0 :: .proc 0 :: .proc 0 :: [] := by decide

/-- A running handler on two cores, a wrong lifecycle state, another operation. -/
theorem witness_TeardownNeedsQuiescence :
    let s := scheduled [.proc 0] (placed (some (.teardown .t1 none)) none s0)
    s.cfg.valid = true ∧ s.processMayStep = true ∧ s.seqOf 0 = some (.teardown .t1 none) ∧ s.schedule = .proc 0 :: [] ∧
    s.inHandler = false ∧ { s with lifecycle := .registered }.lifecycle ≠ .running ∧
    { s with inHandler := true, cfg := { Config.hw with nCores := 2 } }.processMayStep = true ∧
    { Config.hw with nCores := 2 }.valid = true ∧
    (placed (some (.teardown .t1 none)) (some (.popWait true)) s).seqOf 1 = some (.popWait true) := by decide

theorem witness_FailedBringUpUnwinds :
    let s := scheduled (.start 0 (.unwind .resourceExhausted) :: .proc 0 :: .proc 0 :: .proc 0 :: [])
      { s0 with lifecycle := .interruptsEnabled }
    s.cfg.valid = true ∧ s.lifecycle = .interruptsEnabled ∧ s.inHandler = false ∧ s.quiescent = true ∧
    (∃ p : Proc, s.procs[0]? = some p) ∧
    s.schedule = .start 0 (.unwind .resourceExhausted) :: .proc 0 :: .proc 0 :: .proc 0 :: [] :=
  ⟨by decide, rfl, rfl, by decide, ⟨_, rfl⟩, rfl⟩

end Sys2Proof.Tests
end

section
/-! Proofs of the family of spec/20_memory.md: the byte address of a slot, and the step of a configuration that is refused. -/

namespace Sys2Proof

/-- In a valid configuration the slots are 4 bytes apart (R60). -/
theorem Config.slotAddress_of_valid {c : Config} (off : Nat) (h : c.valid = true) :
    c.slotAddress off = c.base + 4 * off := by
  obtain ⟨-, -, -, stride_eq, -⟩ := c.valid_iff.1 h
  rw [Config.slotAddress, stride_eq]

/-- The alignment of BASE that R62 asks for. -/
theorem Config.base_mod_four_of_valid {c : Config} (h : c.valid = true) : c.base % 4 = 0 := by
  obtain ⟨-, -, -, -, -, base_aligned, -⟩ := c.valid_iff.1 h
  exact base_aligned

/-- Adding whole slots keeps the alignment of BASE (R62). -/
theorem Config.slotAddress_mod_four_of_valid {c : Config} (off : Nat) (h : c.valid = true) :
    c.slotAddress off % 4 = 0 := by
  rw [Config.slotAddress_of_valid off h, Nat.add_mul_mod_self_left]
  exact Config.base_mod_four_of_valid h

namespace Machine

/-- A configuration that is not valid takes no step, whatever the schedule (R6, R206). -/
theorem step_of_not_valid {s : State} (h : ¬ s.cfg.valid = true) : step s = .refused .badConfig :=
  if_neg h

/-- Settles O25: the addresses from the stride and the alignment of a valid configuration, the refusal because a misaligned BASE
makes the configuration invalid. -/
theorem slotAddressesAreAligned : Obligations.SlotAddressesAreAligned := by
  refine ⟨fun c off valid => ?_, fun s misaligned => ?_⟩
  · exact ⟨Config.slotAddress_of_valid off valid, Config.slotAddress_mod_four_of_valid off valid⟩
  · exact step_of_not_valid fun valid => misaligned (Config.base_mod_four_of_valid valid)

end Machine

end Sys2Proof
end

section
/-! Proofs of the family of spec/40_register_access.md: the meaning of each register transaction. -/

namespace Sys2Proof.Machine

/-! ### Masks and accepted values -/

@[simp] theorem within_eq_true {b mask : Byte} : within b mask = true ↔ b &&& ~~~mask = 0x00#8 := by
  simp [within]

/-- The values that R105 lets through, in the rule's own terms. -/
theorem lcrAccepted_iff {c : Config} {b : Byte} :
    lcrAccepted c b = true ↔ ¬ ((b &&& ~~~(c.lcrWlenMask ||| c.lcrDle)) ≠ 0x00#8 ∨
      ((b &&& c.lcrDle) = 0x00#8 ∧ (b &&& c.lcrWlenMask) ≠ c.lcrWlen8)) := by
  simp [lcrAccepted, imp_iff_not_or]

/-- At the parameters of R5 five bytes pass (R105). -/
theorem lcrAccepted_hw_iff : ∀ b : Byte,
    lcrAccepted Config.hw b = true ↔ b ∈ [0x03#8, 0x80#8, 0x81#8, 0x82#8, 0x83#8] := by
  decide

theorem fcrAccepted_iff {c : Config} {b : Byte} :
    fcrAccepted c b = true ↔ (b &&& ~~~(c.fcrClrRx ||| c.fcrClrTx)) = 0x00#8 := within_eq_true

theorem ierAccepted_iff {c : Config} {b : Byte} :
    ierAccepted c b = true ↔ (b &&& ~~~c.ierRdi) = 0x00#8 := within_eq_true

theorem modeAccepted_iff {c : Config} {b : Byte} :
    modeAccepted c b = true ↔ b = c.modeExt ∨ b = c.modeNormal := by
  simp [modeAccepted]

/-! ### Encodings -/

/-- A byte that selects a register whether the divisor latches are open or not (R86, R87). -/
theorem encodedAs_of_anyLatch {op : Byte} {instr : Word → Instr} {r : Reg}
    (selects : ∀ dle, selectReg Config.hw dle (op.getLsbD 7) (op.extractLsb' 0 7).toNat = some r)
    (accesses : ∀ v, accessInstr r (op.getLsbD 7) v = some (instr v)) (dle : Bool) : EncodedAs op dle instr :=
  encodedAs_of (selects dle) accesses

/-! ### Reads -/

/-- The outcome of a read that leaves `t` (R61, R100): a word with `low` in bits 7:0 and the free value at `upper` above, and a
counter of the free values that has moved on, so that no later read takes the same ones. -/
def Reads (o : Answer State) (t : State) (low : Byte) (upper : Nat) : Prop :=
  ∃ (r : Word) (n : Nat), o = .next { t with result := .word r, draws := n } ∧ t.draws < n ∧
    r.extractLsb' 0 8 = low ∧ r.extractLsb' 8 24 = Config.freeUpper upper

/-- The result of a read: the low byte and free bits above, at the next free value (R61, R100). -/
theorem returnsRead_reads (s : State) (low : Byte) : Reads (.next (s.returnsRead low)) s low s.draws :=
  ⟨_, _, rfl, Nat.lt_succ_self _, lowByte_readResult _ low, upper_readResult _ low⟩

/-- The same for a read whose low byte took a free value before (R101, R104). -/
theorem drawn_returnsRead_reads (s : State) (low : Byte) :
    Reads (.next ((s.drawn 1).returnsRead low)) s low (s.draws + 1) :=
  ⟨_, _, rfl, by simp, lowByte_readResult _ low, upper_readResult _ low⟩

theorem exec_rdLsr (s : State) : exec .rdLsr s =
    .next ((s.drawn 1).returnsRead (lineStatus s.cfg.lsrTxrdy (Config.freeByte s.draws) s.txReady)) := rfl

theorem exec_rdRxd_of_cons {s : State} {b : Byte} {rest : List Byte} (held : s.rxFifo = b :: rest) :
    exec .rdRxd s = .next { s.returnsRead b with rxFifo := rest } := by
  simp only [exec, execRdRxd, held]

theorem exec_rdRxd_of_nil {s : State} (empty : s.rxFifo = []) :
    exec .rdRxd s = .next ((s.drawn 1).returnsRead (Config.freeByte s.draws)) := by
  simp only [exec, execRdRxd, empty]

/-! ### Writes -/

theorem exec_wrTxd_of_empty {s : State} (v : Word) (empty : s.txHold = none) :
    exec (.wrTxd v) s = .next { s with txHold := some (lowByte v), result := .noValue } := by
  simp only [exec, execWrTxd, empty]; rfl

theorem exec_wrTxd_of_held {s : State} (v : Word) {b : Byte} (held : s.txHold = some b) :
    exec (.wrTxd v) s = .next ((s.addFault .txOverrun).returns .noValue) := by
  simp only [exec, execWrTxd, held]

/-- The faults after a configuration write (R186), by the value of Mode. -/
def State.configFaults (s : State) : FaultSet :=
  if s.mode = s.cfg.modeExt then s.faults else s.faults.add .configOutsideExtended

/-- The mark of a configuration write is the fault outside extended mode (R186). -/
theorem State.markConfigWrite_eq_configFaults (s : State) :
    s.markConfigWrite = { s with faults := s.configFaults } := by
  rw [State.markConfigWrite_eq, State.markConfigWrite_faults]
  simp [State.configFaults, State.extended]

theorem exec_wrDll (v : Word) (s : State) :
    exec (.wrDll v) s = .next { s with dll := lowByte v, faults := s.configFaults, result := .noValue } := by
  rw [exec, execWrDll, State.markConfigWrite_eq_configFaults]; rfl

theorem exec_wrDlh (v : Word) (s : State) :
    exec (.wrDlh v) s = .next { s with dlh := lowByte v, faults := s.configFaults, result := .noValue } := by
  rw [exec, execWrDlh, State.markConfigWrite_eq_configFaults]; rfl

theorem exec_wrLcr_of_accepted {v : Word} {s : State} (ok : lcrAccepted s.cfg (lowByte v) = true) :
    exec (.wrLcr v) s = .next { s with lcr := lowByte v, faults := s.configFaults, result := .noValue } := by
  rw [exec, execWrLcr, if_pos ok, State.markConfigWrite_eq_configFaults]; rfl

theorem exec_wrLcr_of_not_accepted {v : Word} {s : State} (bad : ¬ lcrAccepted s.cfg (lowByte v) = true) :
    exec (.wrLcr v) s = .refused .reservedValue :=
  if_neg bad

/-- `WR.LCR` completes exactly on an accepted value (R105). -/
theorem exec_wrLcr_completes_iff (v : Word) (s : State) :
    (∃ t : State, exec (.wrLcr v) s = .next t) ↔ lcrAccepted s.cfg (lowByte v) = true := by
  refine ⟨fun ⟨t, completes⟩ => ?_, fun ok => ⟨_, exec_wrLcr_of_accepted ok⟩⟩
  by_contra bad
  rw [exec_wrLcr_of_not_accepted bad] at completes
  cases completes

theorem exec_wrFcr_of_accepted {v : Word} {s : State} (ok : fcrAccepted s.cfg (lowByte v) = true) :
    exec (.wrFcr v) s = .next { s with
      rxFifo := if (lowByte v &&& s.cfg.fcrClrRx) = 0x00#8 then s.rxFifo else []
      txHold := if (lowByte v &&& s.cfg.fcrClrTx) = 0x00#8 then s.txHold else none
      result := .noValue } := by
  simp only [exec, execWrFcr, if_pos ok, bne_iff_ne, ne_eq, ite_not]; rfl

theorem exec_wrFcr_of_not_accepted {v : Word} {s : State} (bad : ¬ fcrAccepted s.cfg (lowByte v) = true) :
    exec (.wrFcr v) s = .refused .reservedValue :=
  if_neg bad

theorem exec_wrIer_of_accepted {v : Word} {s : State} (ok : ierAccepted s.cfg (lowByte v) = true) :
    exec (.wrIer v) s = .next { s with ier := lowByte v, result := .noValue } :=
  if_pos ok

theorem exec_wrIer_of_not_accepted {v : Word} {s : State} (bad : ¬ ierAccepted s.cfg (lowByte v) = true) :
    exec (.wrIer v) s = .refused .reservedValue :=
  if_neg bad

theorem exec_wrMode_of_accepted {v : Word} {s : State} (ok : modeAccepted s.cfg (lowByte v) = true) :
    exec (.wrMode v) s = .next { s with mode := lowByte v, result := .noValue } :=
  if_pos ok

theorem exec_wrMode_of_not_accepted {v : Word} {s : State} (bad : ¬ modeAccepted s.cfg (lowByte v) = true) :
    exec (.wrMode v) s = .refused .reservedValue :=
  if_neg bad

/-- The interrupt level (R29) is up exactly while a byte is held and the receive interrupt is enabled. -/
theorem State.irq_iff (s : State) : s.irq = true ↔ s.rxFifo ≠ [] ∧ (s.ier &&& s.cfg.ierRdi) ≠ 0x00#8 := by
  simp [State.irq, State.rxReady]

/-! ### The obligations -/

/-- Settles O5: the accepted values are those R105 names, and the mark of the write is the fault outside extended mode. -/
theorem wrLcrStoresOrRefuses : Obligations.WrLcrStoresOrRefuses := by
  refine ⟨encodedAs_of_anyLatch (r := .lcr) (by decide) (fun _ => rfl), fun v s => ⟨?_, ?_, ?_⟩, fun v s hw => ?_⟩
  · exact fun bad => exec_wrLcr_of_not_accepted fun ok => lcrAccepted_iff.1 ok bad
  · intro good extended
    rw [exec_wrLcr_of_accepted (lcrAccepted_iff.2 good), State.configFaults, if_pos extended]; rfl
  · intro good outside
    rw [exec_wrLcr_of_accepted (lcrAccepted_iff.2 good), State.configFaults, if_neg outside]; rfl
  · rw [exec_wrLcr_completes_iff, hw]
    exact lcrAccepted_hw_iff (lowByte v)

/-- Settles O1: the low byte is the Line Status value, whose bits are the flag in the mask and the free byte's elsewhere. -/
theorem rdLsrShowsTransmitReady : Obligations.RdLsrShowsTransmitReady := by
  refine ⟨encodedAs_of_anyLatch (r := .lsr) (by decide) (fun _ => rfl), fun s => ?_⟩
  refine ⟨_, _, exec_rdLsr s, by simp, fun j hj inMask => ?_, fun j hj outside => ?_, upper_readResult _ _⟩
  · rw [readResult_getLsbD _ _ hj, lineStatus_getLsbD _ _ _ hj, if_pos inMask, State.txReady]
  · rw [readResult_getLsbD _ _ hj, lineStatus_getLsbD _ _ _ hj, if_neg (by simp [outside])]

/-- Settles O2: the meaning of `WR.LSR` is the refusal. -/
theorem wrLsrIsRefused : Obligations.WrLsrIsRefused :=
  ⟨encodedAs_of_anyLatch (r := .lsr) (by decide) (fun _ => rfl), fun _ _ => rfl⟩

/-- Settles O3, by whether a byte is held. -/
theorem wrTxdFillsHoldingOrOverruns : Obligations.WrTxdFillsHoldingOrOverruns :=
  ⟨encodedAs_of (r := .txd) (by decide) (fun _ => rfl), fun v _ =>
    ⟨exec_wrTxd_of_empty v, fun _ => exec_wrTxd_of_held v⟩⟩

/-- Settles O4, by whether a byte is held: the state a read leaves is the one without its oldest byte, or the same one. -/
theorem rdRxdTakesOldestByte : Obligations.RdRxdTakesOldestByte := by
  refine ⟨encodedAs_of (r := .rxd) (by decide) (fun _ => rfl), fun s => ⟨fun b rest held => ?_, fun empty => ?_⟩⟩
  · rw [exec_rdRxd_of_cons held]
    exact returnsRead_reads { s with rxFifo := rest } b
  · rw [exec_rdRxd_of_nil empty]
    exact drawn_returnsRead_reads s _

/-- Settles O6: each of the five reads returns its register. -/
theorem storedRegistersReadBack : Obligations.StoredRegistersReadBack := by
  refine ⟨encodedAs_of_anyLatch (r := .lcr) (by decide) (fun _ => rfl), encodedAs_of (r := .dll) (by decide) (fun _ => rfl),
    encodedAs_of (r := .dlh) (by decide) (fun _ => rfl), encodedAs_of (r := .ier) (by decide) (fun _ => rfl),
    encodedAs_of_anyLatch (r := .mode) (by decide) (fun _ => rfl), fun s => ?_⟩
  exact ⟨returnsRead_reads s s.lcr, returnsRead_reads s s.dll, returnsRead_reads s s.dlh, returnsRead_reads s s.ier,
    returnsRead_reads s s.mode⟩

/-- Settles O7: both writes store their byte and leave the faults of a configuration write. -/
theorem divisorLatchWritesStore : Obligations.DivisorLatchWritesStore :=
  ⟨encodedAs_of (r := .dll) (by decide) (fun _ => rfl), encodedAs_of (r := .dlh) (by decide) (fun _ => rfl), fun v s =>
    ⟨exec_wrDll v s, exec_wrDlh v s⟩⟩

/-- Settles O8, by whether the value has a bit outside the two clear bits. -/
theorem wrFcrClearsHoldings : Obligations.WrFcrClearsHoldings :=
  ⟨encodedAs_of_anyLatch (r := .fcr) (by decide) (fun _ => rfl), fun _ _ =>
    ⟨fun bad => exec_wrFcr_of_not_accepted fun ok => bad (fcrAccepted_iff.1 ok),
      fun good => exec_wrFcr_of_accepted (fcrAccepted_iff.2 good)⟩⟩

/-- Settles O9: the result is the free word at the counter, which moves on by one. -/
theorem rdFcrIsFree : Obligations.RdFcrIsFree :=
  ⟨encodedAs_of_anyLatch (r := .fcr) (by decide) (fun _ => rfl), fun s => ⟨s.draws + 1, rfl, Nat.lt_succ_self _⟩⟩

/-- Settles O10: after the store the interrupt level is that of the new Interrupt Enable. -/
theorem wrIerStoresAndRecomputesIrq : Obligations.WrIerStoresAndRecomputesIrq := by
  refine ⟨encodedAs_of (r := .ier) (by decide) (fun _ => rfl), fun v s => ⟨fun bad => ?_, fun good => ?_⟩⟩
  · exact exec_wrIer_of_not_accepted fun ok => bad (ierAccepted_iff.1 ok)
  · exact ⟨_, exec_wrIer_of_accepted (ierAccepted_iff.2 good), rfl, State.irq_iff _⟩

/-- Settles O11, by whether the value is one of the two modes. -/
theorem wrModeStoresOrRefuses : Obligations.WrModeStoresOrRefuses :=
  ⟨encodedAs_of_anyLatch (r := .mode) (by decide) (fun _ => rfl), fun _ _ =>
    ⟨fun good => exec_wrMode_of_accepted (modeAccepted_iff.2 good),
      fun notExt notNormal => exec_wrMode_of_not_accepted fun ok => (modeAccepted_iff.1 ok).elim notExt notNormal⟩⟩

end Sys2Proof.Machine
end

section
/-! Proofs of the family of spec/41_transmit.md: the control words and the transmitter. -/

namespace Sys2Proof

/-! ### Control words -/

/-- `OP` 0 names `CTRL.RESET` (R135). -/
@[simp] theorem decodeCtrl_ctrlWord_zero (arg : Word) : decodeCtrl (ctrlWord 0#32 arg) = .ok (.ctrlReset arg) := by
  simp [decodeCtrl]

/-- `OP` 1 names `CTRL.GET` (R137). -/
@[simp] theorem decodeCtrl_ctrlWord_one (arg : Word) : decodeCtrl (ctrlWord 1#32 arg) = .ok (.ctrlGet arg) := by
  simp [decodeCtrl]

/-- Any other `OP` names nothing (R138). -/
theorem decodeCtrl_ctrlWord_of_other {op : Word} (arg : Word) (notReset : op ≠ 0#32) (notGet : op ≠ 1#32) :
    decodeCtrl (ctrlWord op arg) = .error .invalidOperation := by
  simp [decodeCtrl, notReset, notGet]

/-- The constraint of R6 on the two Mode values. -/
theorem Config.modeExt_ne_modeNormal {c : Config} (h : c.valid = true) : c.modeExt ≠ c.modeNormal := by
  obtain ⟨-, -, -, -, -, -, -, masks, -⟩ := c.valid_iff.1 h
  simp only [Config.masksValid, Bool.and_eq_true, bne_iff_ne] at masks
  exact masks.2

namespace Machine

theorem exec_ctrlReset (arg : Word) (s : State) :
    exec (.ctrlReset arg) s = .next { s with txCounter := 0, result := .noValue } := rfl

theorem exec_ctrlGet (arg : Word) (s : State) :
    exec (.ctrlGet arg) s = .next { s with result := .count s.txCounter } := rfl

/-- A control word that names an operation has that operation's meaning (R135, R137). -/
theorem transactCtrl_of_ok {w : CtrlWord} {i : Instr} (s : State) (h : decodeCtrl w = .ok i) :
    transactCtrl w s = exec i s := by
  simp only [transactCtrl, h]

/-- A control word that names none raises `InvalidOperation` (R138, R201). -/
theorem transactCtrl_of_error {w : CtrlWord} {e : DecodeError} (s : State) (h : decodeCtrl w = .error e) :
    transactCtrl w s = .next { s with result := .raised .invalidOperation } := by
  simp only [transactCtrl, h]; rfl

/-- A control operation that completes raises nothing (R135, R137). -/
theorem transactCtrl_result_ne_raised {w : CtrlWord} {i : Instr} {s t : State} (decodes : decodeCtrl w = .ok i)
    (completes : transactCtrl w s = .next t) (e : Exc) : t.result ≠ .raised e := by
  rw [transactCtrl_of_ok s decodes] at completes
  obtain ⟨-, rfl⟩ | ⟨-, rfl⟩ := decodeCtrl_cases decodes
  · rw [exec_ctrlReset] at completes
    cases completes
    simp
  · rw [exec_ctrlGet] at completes
    cases completes
    simp

/-! ### The transmitter -/

theorem State.drainEnabled_iff (s : State) :
    s.drainEnabled = true ↔ s.mode = s.cfg.modeNormal ∧ s.txHold ≠ none := by
  simp [State.drainEnabled, State.normal, Option.isSome_iff_ne_none]

/-- The transmitter in normal mode with a byte held (R136). -/
theorem drain_of_held {s : State} {b : Byte} (held : s.txHold = some b) (normal : s.mode = s.cfg.modeNormal) :
    drain s = { s with txLine := s.txLine ++ [b], txHold := none } := by
  simp [drain, held, State.normal, normal]

/-- The transmitter has no step where `DRAIN` is not enabled (R136). -/
theorem drain_of_not_enabled {s : State} (h : ¬ s.drainEnabled = true) : drain s = s := by
  cases held : s.txHold with
  | none => simp [drain, held]
  | some b =>
    have notNormal : ¬ s.normal = true := by simpa [State.drainEnabled, held] using h
    simp [drain, held, notNormal]

/-- The step that offers the transmitter a move (R136). -/
theorem step_drain {s : State} {es : List Event} (valid : s.cfg.valid = true) (drainNext : s.schedule = .drain :: es) :
    step s = .next (drain { s with schedule := es }) :=
  step_cons valid drainNext

/-! ### The obligations -/

/-- Settles O14: any other word does not decode, and one that decodes completes without raising anything. -/
theorem otherControlWordsAreInvalid : Obligations.OtherControlWordsAreInvalid := by
  refine fun op arg s => ⟨fun notReset notGet => ?_, ?_⟩
  · exact transactCtrl_of_error s (decodeCtrl_ctrlWord_of_other arg notReset notGet)
  · rintro (rfl | rfl) t completes
    · exact transactCtrl_result_ne_raised (decodeCtrl_ctrlWord_zero arg) completes _
    · exact transactCtrl_result_ne_raised (decodeCtrl_ctrlWord_one arg) completes _

/-- Settles O12: the word with `OP` 0 decodes to `CTRL.RESET`, which sets the counter. -/
theorem ctrlResetZeroesCounter : Obligations.CtrlResetZeroesCounter := fun arg s =>
  ⟨transactCtrl_of_ok s (decodeCtrl_ctrlWord_zero arg), exec_ctrlReset arg s⟩

/-- Settles O37, by whether `DRAIN` is enabled; the two Mode values differ in a valid configuration. -/
theorem drainMovesTheHeldByte : Obligations.DrainMovesTheHeldByte := by
  refine fun s es valid drainNext => ⟨fun b held normal => ?_, fun disabled => ?_, fun extended => ?_⟩
  · rw [step_drain valid drainNext, drain_of_held (s := { s with schedule := es }) held normal]
  · have notEnabled : ¬ State.drainEnabled { s with schedule := es } = true := by
      intro enabled
      obtain ⟨normal, held⟩ := (State.drainEnabled_iff _).1 enabled
      exact disabled.elim held (· normal)
    rw [step_drain valid drainNext, drain_of_not_enabled notEnabled]
  · exact extended ▸ Config.modeExt_ne_modeNormal valid

end Machine

end Sys2Proof
end

section
/-! Proofs of the family of spec/42_receive.md: the arrival of a byte at the receiver. -/

namespace Sys2Proof.Machine

/-! ### The receiver -/

/-- With nothing on the line the receiver has no step. -/
theorem arrive_of_nil {s : State} (line : s.rxLine = []) : arrive s = s := by
  simp only [arrive, line]

/-- Outside normal mode the byte is lost and no fault is recorded (R152). -/
theorem arrive_of_not_normal {s : State} {b : Byte} {rest : List Byte} (line : s.rxLine = b :: rest)
    (outside : s.mode ≠ s.cfg.modeNormal) : arrive s = { s with rxLine := rest } := by
  simp [arrive, line, State.normal, outside]

/-- In normal mode with room the byte joins the holding (R150). -/
theorem arrive_of_room {s : State} {b : Byte} {rest : List Byte} (line : s.rxLine = b :: rest)
    (normal : s.mode = s.cfg.modeNormal) (room : s.rxFifo.length < s.cfg.rxDepth) :
    arrive s = { s with rxLine := rest, rxFifo := s.rxFifo ++ [b] } := by
  simp [arrive, line, State.normal, normal, room]

/-- In normal mode with the holding full the byte is lost and the overrun is recorded (R151). -/
theorem arrive_of_full {s : State} {b : Byte} {rest : List Byte} (line : s.rxLine = b :: rest)
    (normal : s.mode = s.cfg.modeNormal) (full : s.cfg.rxDepth ≤ s.rxFifo.length) :
    arrive s = { s with rxLine := rest, faults := s.faults.add .rxHwOverrun } := by
  simp [arrive, line, State.normal, normal, Nat.not_lt.2 full, State.addFault]

/-- The step that offers the receiver a move. -/
theorem step_arrive {s : State} {es : List Event} (valid : s.cfg.valid = true) (arriveNext : s.schedule = .arrive :: es) :
    step s = .next (arrive { s with schedule := es }) :=
  step_cons valid arriveNext

/-! ### The obligations -/

/-- Settles O44, by what is on the line, then by the mode and the room in the holding. -/
theorem arrivalIsHeldOrLost : Obligations.ArrivalIsHeldOrLost := by
  intro s es valid arriveNext
  rw [step_arrive valid arriveNext]
  refine ⟨fun line => ?_, fun b rest line => ⟨fun outside => ?_, fun normal room => ?_, fun normal full => ?_⟩⟩
  · rw [arrive_of_nil (s := { s with schedule := es }) line]
  · rw [arrive_of_not_normal (s := { s with schedule := es }) line outside]
  · rw [arrive_of_room (s := { s with schedule := es }) line normal room]
  · rw [arrive_of_full (s := { s with schedule := es }) line normal full]

end Sys2Proof.Machine
end

section
/-! Proofs of the family of spec/30_encoding.md: the encoder and the decoder, the opcode table, and the configurations that are
refused. -/

namespace Sys2Proof

/-! ### Encoding and decoding -/

/-- The word of a register transaction, and the access it names (R81, R86). -/
theorem encode_of_access {i : Instr} {r : Reg} {write : Bool} (c : Config) (h : i.access = some (r, write)) :
    encode c i = .bus (busWord write (c.offset r) (i.written.getD 0#32)) ∧
      accessInstr r write (i.written.getD 0#32) = some i := by
  cases i <;> cases h <;> exact ⟨rfl, rfl⟩

/-- The decoder undoes the encoder: a control operation has a word of its own, and the offset of a reachable register selects it. -/
theorem decode_encode {c : Config} {dle : Bool} {i : Instr} (valid : c.valid = true) (wf : i.wellFormed c dle = true) :
    decode c dle (encode c i) = .ok i := by
  cases access : i.access with
  | none => cases i <;> cases access <;> simp [encode, decode]
  | some a =>
    obtain ⟨r, write⟩ := a
    have reachable : c.reachable dle r write = true := by
      simp only [Instr.wellFormed, access, Bool.and_eq_true] at wf
      exact wf.2
    obtain ⟨word, names⟩ := encode_of_access c access
    rw [word]
    exact decodeBus_busWord valid reachable names

/-- Settles O21. -/
theorem decodeOfEncodeIsTheInstruction : Obligations.DecodeOfEncodeIsTheInstruction :=
  fun _ _ _ => decode_encode

/-- Settles O22, by evaluating the decoder on the eight words. -/
theorem sampleWordsDecode : Obligations.SampleWordsDecode := by
  unfold Obligations.SampleWordsDecode
  decide

/-! ### The opcode table -/

/-- A `BUS` word decodes to the access of the register that its offset selects (R86). -/
theorem decodeBus_eq_ok_iff {c : Config} {dle : Bool} {t : BusWord} {i : Instr} :
    decodeBus c dle t = .ok i ↔
      ∃ r, selectReg c dle (busWrite t) (busOffset t) = some r ∧ accessInstr r (busWrite t) (busData t) = some i := by
  rw [← Option.bind_eq_some_iff, decodeBus]
  split
  next j hj => rw [hj]; simp
  next hn => rw [hn]; simp

/-- The instruction an access names, by its register, its direction and the value it writes. -/
theorem accessInstr_eq_some_iff {r : Reg} {write : Bool} {v : Word} {i : Instr} :
    accessInstr r write v = some i ↔ i.access = some (r, write) ∧ ∀ u, i.written = some u → u = v := by
  constructor
  · intro h
    cases r <;> cases write <;> cases h <;> simp [Instr.access, Instr.written]
  · rintro ⟨access, written⟩
    cases i <;> cases access <;> simp_all [accessInstr, Instr.written]

/-- A row of the opcode table is what selects its register in its direction (R87), for the 256 values of bits 39:32. -/
theorem opcode_iff_selects {i : Instr} {r : Reg} {write : Bool} (access : i.access = some (r, write)) (op : Byte)
    (dle : Bool) :
    (selectReg Config.hw dle (op.getLsbD 7) (op.extractLsb' 0 7).toNat = some r ∧ write = op.getLsbD 7) ↔
      (i.opcode = some op ∧ ∀ d, i.latch = some d → d = dle) := by
  revert op dle
  cases i <;> cases access <;> simp only [Instr.opcode, Instr.latch] <;> decide

/-- Settles O23: an instruction of the word's row is the access of the register that the word selects. -/
theorem decodingIsTheOpcodeTable : Obligations.DecodingIsTheOpcodeTable := by
  intro dle w i
  obtain ⟨isWrite, offset⟩ := Machine.busFields (t := w) rfl
  have data : busData w = w.extractLsb' 0 32 := rfl
  simp only [decodeBus_eq_ok_iff, accessInstr_eq_some_iff, isWrite, offset, data, ← and_assoc, exists_and_right]
  refine and_congr_left fun _ => ?_
  cases access : i.access with
  | none => cases i <;> cases access <;> simp [Instr.opcode]
  | some a =>
    obtain ⟨r, write⟩ := a
    rw [← opcode_iff_selects access]
    constructor
    · rintro ⟨_, selects, same⟩
      cases same
      exact ⟨selects, rfl⟩
    · rintro ⟨selects, rfl⟩
      exact ⟨r, selects, rfl⟩

/-! ### Reserved offsets -/

/-- The register an offset selects can be accessed in the word's direction (R86). -/
theorem accessInstr_ne_none_of_selectReg {c : Config} {dle write : Bool} {off : Nat} {r : Reg}
    (h : selectReg c dle write off = some r) (v : Word) : accessInstr r write v ≠ none := by
  intro isNone
  cases r <;> cases write <;> simp only [accessInstr, reduceCtorEq] at isNone <;> grind [selectReg]

/-- The one reason for which a `BUS` word is no instruction (R88). -/
theorem eq_reservedOffset_of_decodeBus {c : Config} {dle : Bool} {t : BusWord} {e : DecodeError}
    (h : decodeBus c dle t = .error e) : e = .reservedOffset := by
  unfold decodeBus at h
  split at h <;> cases h
  rfl

/-- A `BUS` word is no instruction exactly where its offset selects no register (R86, R88). -/
theorem decodeBus_eq_error_iff {c : Config} {dle : Bool} {t : BusWord} :
    decodeBus c dle t = .error .reservedOffset ↔ selectReg c dle (busWrite t) (busOffset t) = none := by
  unfold decodeBus
  cases selects : selectReg c dle (busWrite t) (busOffset t) with
  | none => simp
  | some r =>
    obtain ⟨i, access⟩ := Option.ne_none_iff_exists'.1 (accessInstr_ne_none_of_selectReg selects (busData t))
    simp [access]

/-- The offsets that hold no register at the parameters of R5 (R117). -/
theorem selectReg_hw_eq_none_iff (dle write : Bool) (off : Nat) :
    selectReg Config.hw dle write off = none ↔ off ∉ [0, 1, 2, 3, 5, 8] := by
  unfold selectReg Config.hw
  cases dle <;> cases write <;> grind

namespace Machine

/-- A register's own rule never refuses an offset: `transact` does, before it (R100, R117). -/
theorem exec_ne_reservedOffset (i : Instr) (s : State) : exec i s ≠ .refused .reservedOffset := by
  intro h
  cases i <;> simp only [exec, execRdRxd, execWrTxd, execRdDll, execWrDll, execRdIer, execWrIer, execRdDlh, execWrDlh,
    execRdFcr, execWrFcr, execRdLcr, execWrLcr, execRdLsr, execWrLsr, execRdMode, execWrMode, execCtrlReset,
    execCtrlGet, reduceCtorEq, Host.Outcome.refused.injEq] at h <;>
    (split at h <;> cases h)

/-- A mapped transaction is refused for its offset exactly where no register is selected (R100, R117). -/
theorem transact_eq_reservedOffset_iff {w : BusWord} {s : State} (mapped : s.mapped = true) :
    transact w s = .refused .reservedOffset ↔ decodeBus s.cfg s.dle w = .error .reservedOffset := by
  simp only [transact, mapped, if_true]
  split
  next i hi => simp [hi, exec_ne_reservedOffset]
  next e he => simp [he, eq_reservedOffset_of_decodeBus he]

/-- Settles O16: a mapped transaction is refused for its offset where the offset selects nothing. -/
theorem reservedOffsetsAreRefused : Obligations.ReservedOffsetsAreRefused := by
  intro w s hw mapped
  rw [transact_eq_reservedOffset_iff mapped, decodeBus_eq_error_iff, hw, selectReg_hw_eq_none_iff]

/-! ### Written words -/

/-- Settles O18: each of the eight meanings takes `v[7:0]` only. -/
theorem upperWriteBitsAreIgnored : Obligations.UpperWriteBitsAreIgnored := by
  intro v v' s same
  have low : lowByte v = lowByte v' := same
  simp only [exec, execWrTxd, execWrDll, execWrDlh, execWrIer, execWrFcr, execWrLcr, execWrLsr, execWrMode, low, and_self]

end Machine

/-! ### Constraints on the parameters -/

/-- R6 on the offsets, written out. -/
theorem Config.offsetsValid_iff (c : Config) :
    c.offsetsValid = true ↔
      c.offFcr ≠ c.offLcr ∧ c.offFcr ≠ c.offLsr ∧ c.offFcr ≠ c.offMode ∧ c.offLcr ≠ c.offLsr ∧ c.offLcr ≠ c.offMode ∧
      c.offLsr ≠ c.offMode ∧ (∀ o ∈ c.ownOffsets, o ∉ c.overlaidOffsets) ∧
      ∀ o, o ∈ c.ownOffsets ∨ o ∈ c.overlaidOffsets → o < 128 := by
  have nodup : c.ownOffsets.Nodup ↔ c.offFcr ≠ c.offLcr ∧ c.offFcr ≠ c.offLsr ∧ c.offFcr ≠ c.offMode ∧
      c.offLcr ≠ c.offLsr ∧ c.offLcr ≠ c.offMode ∧ c.offLsr ≠ c.offMode := by
    simp [Config.ownOffsets, and_assoc]
  simp [Config.offsetsValid, nodup, and_assoc, or_imp, forall_and]

/-- R6 on the masks and codes, written out. -/
theorem Config.masksValid_iff (c : Config) :
    c.masksValid = true ↔ (c.lcrWlenMask &&& c.lcrDle) = 0x00#8 ∧ (c.fcrClrRx &&& c.fcrClrTx) = 0x00#8 ∧
      c.modeExt ≠ c.modeNormal := by
  simp [Config.masksValid, and_assoc]

namespace Machine

/-- With a valid configuration and nobody offered a step nobody moves. -/
theorem step_of_schedule_nil {s : State} (valid : s.cfg.valid = true) (done : s.schedule = []) : step s = .next s := by
  simp [step, valid, takeNext, done]

/-- Settles O24: the constraints listed are the negations of those of a valid configuration. -/
theorem badConfigurationIsRefused : Obligations.BadConfigurationIsRefused := by
  intro s c own overlaid broken
  have valid_iff : c.valid = true ↔ ¬ broken := by
    simp only [Config.valid_iff, Config.offsetsValid_iff, Config.masksValid_iff, broken, not_or, not_lt, not_exists, not_and,
      not_le, ne_eq, not_not, and_assoc]
    exact Iff.rfl
  refine ⟨fun breaks => step_of_not_valid fun valid => valid_iff.1 valid breaks, fun keeps done => ?_⟩
  exact step_of_schedule_nil (valid_iff.2 keeps) done

end Machine

end Sys2Proof
end

section
/-! Proofs of the rules of the whole machine (spec/10_state.md, spec/60_exceptions.md): what each move leaves alone, one lemma for
each part of the state, and the invariant. -/

namespace Sys2Proof.Machine

/-! ### What the composite moves leave alone -/

section
variable (k : Nat) (j : TxJob) (l : TeardownLabel) (f : Option BringUpError) (p : PlatformStep) (s : State)

/-- `COUNT` moves the counter and the position only (R130). -/
theorem countStep_eq : countStep k j s = { s.countByte with procs := (countStep k j s).procs } := by
  unfold countStep; split <;> rfl

@[simp] theorem countStep_cfg : (countStep k j s).cfg = s.cfg := by rw [countStep_eq]; rfl
@[simp] theorem countStep_lcr : (countStep k j s).lcr = s.lcr := by rw [countStep_eq]; rfl
@[simp] theorem countStep_ier : (countStep k j s).ier = s.ier := by rw [countStep_eq]; rfl
@[simp] theorem countStep_mode : (countStep k j s).mode = s.mode := by rw [countStep_eq]; rfl
@[simp] theorem countStep_txLine : (countStep k j s).txLine = s.txLine := by rw [countStep_eq]; rfl
@[simp] theorem countStep_rxLine : (countStep k j s).rxLine = s.rxLine := by rw [countStep_eq]; rfl
@[simp] theorem countStep_txCounter : (countStep k j s).txCounter = (s.txCounter + 1) % 2 ^ s.cfg.cntBits := by
  rw [countStep_eq]; rfl
@[simp] theorem countStep_storage : (countStep k j s).storage = s.storage := by rw [countStep_eq]; rfl
@[simp] theorem countStep_readCursor : (countStep k j s).readCursor = s.readCursor := by rw [countStep_eq]; rfl
@[simp] theorem countStep_writeCursor : (countStep k j s).writeCursor = s.writeCursor := by rw [countStep_eq]; rfl
@[simp] theorem countStep_lifecycle : (countStep k j s).lifecycle = s.lifecycle := by rw [countStep_eq]; rfl
@[simp] theorem countStep_faults : (countStep k j s).faults = s.faults := by rw [countStep_eq]; rfl
@[simp] theorem countStep_schedule : (countStep k j s).schedule = s.schedule := by rw [countStep_eq]; rfl

@[simp] theorem teardownAction_cfg : (teardownAction k l f s).cfg = s.cfg := by cases l <;> rfl
@[simp] theorem teardownAction_txLine : (teardownAction k l f s).txLine = s.txLine := by cases l <;> rfl
@[simp] theorem teardownAction_rxLine : (teardownAction k l f s).rxLine = s.rxLine := by cases l <;> rfl
@[simp] theorem teardownAction_txCounter : (teardownAction k l f s).txCounter = s.txCounter := by cases l <;> rfl
@[simp] theorem teardownAction_storage : (teardownAction k l f s).storage = s.storage := by cases l <;> rfl
@[simp] theorem teardownAction_readCursor : (teardownAction k l f s).readCursor = s.readCursor := by cases l <;> rfl
@[simp] theorem teardownAction_writeCursor : (teardownAction k l f s).writeCursor = s.writeCursor := by cases l <;> rfl
@[simp] theorem teardownAction_faults : (teardownAction k l f s).faults = s.faults := by cases l <;> rfl
@[simp] theorem teardownAction_schedule : (teardownAction k l f s).schedule = s.schedule := by cases l <;> rfl

@[simp] theorem platformStep_cfg : (platformStep p s).cfg = s.cfg := by
  cases p <;> simp only [platformStep] <;> split <;> rfl
@[simp] theorem platformStep_txLine : (platformStep p s).txLine = s.txLine := by
  cases p <;> simp only [platformStep] <;> split <;> rfl
@[simp] theorem platformStep_rxLine : (platformStep p s).rxLine = s.rxLine := by
  cases p <;> simp only [platformStep] <;> split <;> rfl
@[simp] theorem platformStep_schedule : (platformStep p s).schedule = s.schedule := by
  cases p <;> simp only [platformStep] <;> split <;> rfl

end

/-- The platform touches the block's own data at a creation only (R240). -/
theorem platformStep_data {p : PlatformStep} (s : State) (h : p ≠ .create) :
    (platformStep p s).txCounter = s.txCounter ∧ (platformStep p s).storage = s.storage ∧
    (platformStep p s).readCursor = s.readCursor ∧ (platformStep p s).writeCursor = s.writeCursor ∧
    (platformStep p s).faults = s.faults := by
  cases p <;> simp only [platformStep, ne_eq, not_true_eq_false] at h ⊢ <;> split <;> simp

/-- A creation happens in `Uninitialized` only, and leaves the block as new (R47, R240). -/
theorem platformStep_create_cases (s : State) :
    platformStep .create s = s ∨ (s.lifecycle = .uninitialized ∧ platformStep .create s = s.createInstance) := by
  simp only [platformStep]
  split
  next h => exact .inr ⟨h.1, rfl⟩
  next => exact .inl rfl

/-- What `RECV` leaves alone (R67, R153). -/
structure ReceiveFrame (s t : State) : Prop where
  cfg             : t.cfg = s.cfg
  schedule        : t.schedule = s.schedule
  txLine          : t.txLine = s.txLine
  rxLine          : t.rxLine = s.rxLine
  txCounter       : t.txCounter = s.txCounter
  storage         : t.storage = s.storage
  readCursor      : t.readCursor = s.readCursor
  writeCursor     : t.writeCursor = s.writeCursor
  registerLock    : t.registerLock = s.registerLock
  bufferLock      : t.bufferLock = s.bufferLock
  lifecycle       : t.lifecycle = s.lifecycle
  handlerAttached : t.handlerAttached = s.handlerAttached
  irqId           : t.irqId = s.irqId
  procs           : t.procs = s.procs
  fifo            : t.rxFifo.length ≤ s.rxFifo.length
  faults          : s.faults.subset t.faults
  lcr             : t.lcr = s.lcr ∨ lcrAccepted s.cfg t.lcr = true
  ier             : t.ier = s.ier ∨ ierAccepted s.cfg t.ier = true
  mode            : t.mode = s.mode ∨ t.mode = s.cfg.modeExt ∨ t.mode = s.cfg.modeNormal
  position        : (t.inHandler = s.inHandler ∧ t.handler.isSome = true) ∨ (t.inHandler = false ∧ t.handler = none)

/-- The frame of `RECV`: that of its transaction, whatever the handler makes of the result. -/
theorem receive_frame {w : BusWord} {s u t : State} (hu : transact w s = .next u) (ht : recvDecide u = .next t) :
    ReceiveFrame s t := by
  obtain ⟨b, fifo, faults, lcr, ier, mode⟩ := transact_frame hu
  rcases recvDecide_cases ht with ⟨v, -, rfl⟩ | ⟨-, rfl⟩
  · exact ⟨b.cfg, b.schedule, b.txLine, b.rxLine, b.txCounter, b.storage, b.readCursor, b.writeCursor, b.registerLock,
      b.bufferLock, b.lifecycle, b.handlerAttached, b.irqId, b.procs, fifo, faults, lcr, ier, mode,
      .inl ⟨b.inHandler, rfl⟩⟩
  · exact ⟨b.cfg, b.schedule, b.txLine, b.rxLine, b.txCounter, b.storage, b.readCursor, b.writeCursor, b.registerLock,
      b.bufferLock, b.lifecycle, b.handlerAttached, b.irqId, b.procs, fifo, faults, lcr, ier, mode, .inr ⟨rfl, rfl⟩⟩

/-! ### The parts of the state, move by move -/

/-- No move changes the parameters or the schedule (R5; log 6). -/
theorem Move.cfg_schedule {e : Event} {s t : State} (m : Move e s t) : t.cfg = s.cfg ∧ t.schedule = s.schedule := by
  cases m with
  | access _ _ _ _ hu ha => exact ⟨(access_frame hu ha).cfg, (access_frame hu ha).schedule⟩
  | received _ hu ht => exact ⟨(receive_frame hu ht).cfg, (receive_frame hu ht).schedule⟩
  | controlled _ hu => rcases transactCtrl_cases hu with ⟨-, rfl⟩ | ⟨_, rfl⟩ <;> simp
  | _ => simp [spawn]

/-- The output line only grows, at `DRAIN` (R24, R136). -/
theorem Move.txLine {e : Event} {s t : State} (m : Move e s t) :
    t.txLine = s.txLine ∨ ∃ b, e = .drain ∧ s.txHold = some b ∧ t.txLine = s.txLine ++ [b] := by
  cases m with
  | drained held _ => exact .inr ⟨_, rfl, held, rfl⟩
  | access _ _ _ _ hu ha => exact .inl (access_frame hu ha).txLine
  | received _ hu ht => exact .inl (receive_frame hu ht).txLine
  | controlled _ hu => rcases transactCtrl_cases hu with ⟨-, rfl⟩ | ⟨_, rfl⟩ <;> exact .inl rfl
  | _ => left; simp [spawn]

/-- The input line is only consumed, at `ARRIVE` (R24, R150 to R152). -/
theorem Move.rxLine {e : Event} {s t : State} (m : Move e s t) :
    t.rxLine = s.rxLine ∨ ∃ b, e = .arrive ∧ s.rxLine = b :: t.rxLine := by
  cases m with
  | lost line _ => exact .inr ⟨_, rfl, line⟩
  | held line _ => exact .inr ⟨_, rfl, line⟩
  | overrun line _ => exact .inr ⟨_, rfl, line⟩
  | access _ _ _ _ hu ha => exact .inl (access_frame hu ha).rxLine
  | received _ hu ht => exact .inl (receive_frame hu ht).rxLine
  | controlled _ hu => rcases transactCtrl_cases hu with ⟨-, rfl⟩ | ⟨_, rfl⟩ <;> exact .inl rfl
  | _ => left; simp [spawn]

/-- The faults only grow, but at a creation (R45, R240). -/
theorem Move.faults {e : Event} {s t : State} (m : Move e s t) :
    s.faults.subset t.faults ∨
      (e = .platform .create ∧ s.lifecycle = .uninitialized ∧ t.faults = FaultSet.empty) := by
  have kept {t : State} (h : t.faults = s.faults) : s.faults.subset t.faults := h ▸ FaultSet.subset_refl _
  cases m with
  | overrun _ _ => exact .inl (FaultSet.subset_add _ _)
  | access _ _ _ _ hu ha => exact .inl (access_frame hu ha).faults
  | received _ hu ht => exact .inl (receive_frame hu ht).faults
  | controlled _ hu => rcases transactCtrl_cases hu with ⟨-, rfl⟩ | ⟨_, rfl⟩ <;> exact .inl (kept rfl)
  | platform p _ =>
    by_cases isCreate : p = .create
    · subst isCreate
      rcases platformStep_create_cases s with same | ⟨new, created⟩
      · exact .inl (kept (by rw [same]))
      · exact .inr ⟨rfl, new, by rw [created]; rfl⟩
    · exact .inl (kept (platformStep_data s isCreate).2.2.2.2)
  | _ => exact .inl (kept (by simp [spawn]))

/-- The counter moves at `COUNT`, at `CTRL.RESET` and at a creation (R23, R218). -/
theorem Move.txCounter {e : Event} {s t : State} (m : Move e s t) :
    t.txCounter = s.txCounter ∨
    (∃ k, e = .proc k ∧
      ((∃ j, s.seqOf k = some (.tx j) ∧ j.label = .count ∧ t.txCounter = (s.txCounter + 1) % 2 ^ s.cfg.cntBits) ∨
       (∃ w, s.seqOf k = some (.ctrl w) ∧ ctrlOp w = 0#32 ∧ t.txCounter = 0))) ∨
    (e = .platform .create ∧ t.txCounter = 0) := by
  cases m with
  | counted position label => exact .inr (.inl ⟨_, rfl, .inl ⟨_, position, label, by simp⟩⟩)
  | controlled position hu =>
    rcases transactCtrl_cases hu with ⟨isReset, rfl⟩ | ⟨_, rfl⟩
    · exact .inr (.inl ⟨_, rfl, .inr ⟨_, position, isReset, rfl⟩⟩)
    · exact .inl rfl
  | access _ _ _ _ hu ha => exact .inl (access_frame hu ha).txCounter
  | received _ hu ht => exact .inl (receive_frame hu ht).txCounter
  | platform p _ =>
    by_cases isCreate : p = .create
    · subst isCreate
      rcases platformStep_create_cases s with same | ⟨-, created⟩
      · exact .inl (by rw [same])
      · exact .inr (.inr ⟨rfl, by rw [created]; rfl⟩)
    · exact .inl (platformStep_data s isCreate).1
  | _ => left; simp [spawn]

/-- But for a creation the storage and the write cursor move at `ENQ` (R154). -/
theorem Move.storage_writeCursor {e : Event} {s t : State} (m : Move e s t) (notNew : e ≠ .platform .create) :
    (t.storage = s.storage ∧ t.writeCursor = s.writeCursor) ∨
    ∃ b, e = .handler ∧ s.handler = some (.enq b) ∧ t.storage = s.storage.set s.writeCursor b ∧
      t.writeCursor = (s.writeCursor + 1) % s.cfg.capacity := by
  cases m with
  | enqueued position _ => exact .inr ⟨_, rfl, position, rfl, rfl⟩
  | access _ _ _ _ hu ha => exact .inl ⟨(access_frame hu ha).storage, (access_frame hu ha).writeCursor⟩
  | received _ hu ht => exact .inl ⟨(receive_frame hu ht).storage, (receive_frame hu ht).writeCursor⟩
  | controlled _ hu => rcases transactCtrl_cases hu with ⟨-, rfl⟩ | ⟨_, rfl⟩ <;> exact .inl ⟨rfl, rfl⟩
  | platform p _ =>
    obtain ⟨-, storage, -, writeCursor, -⟩ := platformStep_data s (p := p) (by simpa using notNew)
    exact .inl ⟨storage, writeCursor⟩
  | _ => left; simp [spawn]

/-- But for a creation the read cursor moves at `DEQ` (R157). -/
theorem Move.readCursor {e : Event} {s t : State} (m : Move e s t) (notNew : e ≠ .platform .create) :
    t.readCursor = s.readCursor ∨
    ∃ k asRead, e = .proc k ∧ s.seqOf k = some (.popDeq asRead) ∧
      t.readCursor = (s.readCursor + 1) % s.cfg.capacity := by
  cases m with
  | dequeued position _ => exact .inr ⟨_, _, rfl, position, rfl⟩
  | access _ _ _ _ hu ha => exact .inl (access_frame hu ha).readCursor
  | received _ hu ht => exact .inl (receive_frame hu ht).readCursor
  | controlled _ hu => rcases transactCtrl_cases hu with ⟨-, rfl⟩ | ⟨_, rfl⟩ <;> exact .inl rfl
  | platform p _ => exact .inl (platformStep_data s (p := p) (by simpa using notNew)).2.2.1
  | _ => left; simp [spawn]

@[simp] theorem Lifecycle.allowed_refl (l : Lifecycle) : Lifecycle.allowed l l = true := by
  cases l <;> rfl

/-- The lifecycle moves along its transitions (R25, R180, R190). -/
theorem Move.lifecycle {e : Event} {s t : State} (m : Move e s t) : Lifecycle.allowed s.lifecycle t.lifecycle = true := by
  cases m with
  | access _ _ _ _ hu ha =>
    rcases (access_frame hu ha).lifecycle with same | ⟨old, new⟩ | ⟨old, new⟩
    · simp [same]
    · rw [old, new]; rfl
    · rw [old, new]; rfl
  | received _ hu ht => simp [(receive_frame hu ht).lifecycle]
  | controlled _ hu => rcases transactCtrl_cases hu with ⟨-, rfl⟩ | ⟨_, rfl⟩ <;> simp
  | @tornDown _ l f _ _ _ needs =>
    rw [needs]
    cases l <;> cases f <;> rfl
  | platform p _ =>
    cases p <;> simp only [platformStep] <;> split
    case map.isTrue h => rw [h]; rfl
    case register.isTrue h => rw [h]; rfl
    case run.isTrue h => rw [h]; rfl
    all_goals exact Lifecycle.allowed_refl _
  | _ => simp [spawn]

/-- While the registers are mapped, the registers with reserved bits take accepted values only (R35, R36, R105). -/
theorem Move.registers {e : Event} {s t : State} (m : Move e s t) (mapped : t.mapped = true) :
    (t.lcr = s.lcr ∨ lcrAccepted s.cfg t.lcr = true) ∧ (t.ier = s.ier ∨ ierAccepted s.cfg t.ier = true) ∧
    (t.mode = s.mode ∨ t.mode = s.cfg.modeExt ∨ t.mode = s.cfg.modeNormal) := by
  have kept {t : State} (lcr : t.lcr = s.lcr) (ier : t.ier = s.ier) (mode : t.mode = s.mode) :
      (t.lcr = s.lcr ∨ lcrAccepted s.cfg t.lcr = true) ∧ (t.ier = s.ier ∨ ierAccepted s.cfg t.ier = true) ∧
      (t.mode = s.mode ∨ t.mode = s.cfg.modeExt ∨ t.mode = s.cfg.modeNormal) := ⟨.inl lcr, .inl ier, .inl mode⟩
  cases m with
  | access _ _ _ _ hu ha => exact ⟨(access_frame hu ha).lcr, (access_frame hu ha).ier, (access_frame hu ha).mode⟩
  | received _ hu ht => exact ⟨(receive_frame hu ht).lcr, (receive_frame hu ht).ier, (receive_frame hu ht).mode⟩
  | controlled _ hu => rcases transactCtrl_cases hu with ⟨-, rfl⟩ | ⟨_, rfl⟩ <;> exact kept rfl rfl rfl
  | @tornDown _ l =>
    cases l with
    | t3 => cases mapped
    | _ => exact kept rfl rfl rfl
  | platform p _ =>
    cases p with
    | powerUp =>
      simp only [platformStep] at mapped ⊢
      split at mapped
      next unmapped => simp [State.mapped, unmapped, Lifecycle.mapped] at mapped
      next notNew => rw [if_neg notNew]; exact kept rfl rfl rfl
    | _ => simp only [platformStep]; split <;> exact kept rfl rfl rfl
  | _ => exact kept (by simp [spawn]) (by simp [spawn]) (by simp [spawn])

/-! ### No step ends in a fault of the machine (R206) -/

theorem next_ne_fault {s : State} {r : Fault} : (.next s : Answer State) ≠ .fault r := nofun

theorem withRegisterLock_ne_fault {a : Agent} {s : State} {body after : State → Answer State}
    (hbody : ∀ u r, body u ≠ .fault r) (hafter : ∀ u r, after u ≠ .fault r) (r : Fault) :
    withRegisterLock a s body after ≠ .fault r := by
  unfold withRegisterLock
  split
  · nofun
  · exact andThen_ne_fault (hbody _) (fun _ => hafter _) r

theorem orRaised_ne_fault {k : Nat} {after : Result → State → Answer State} (hafter : ∀ v u r, after v u ≠ .fault r)
    (t : State) (r : Fault) : orRaised k after t ≠ .fault r := by
  unfold orRaised
  split
  · nofun
  · exact hafter _ _ r

theorem transactCtrl_ne_fault (w : CtrlWord) (s : State) (r : Fault) : transactCtrl w s ≠ .fault r := by
  unfold transactCtrl
  split
  · exact exec_ne_fault _ _ _
  · nofun

theorem pollDecide_ne_fault (k : Nat) (j : TxJob) (v : Result) (t : State) (r : Fault) : pollDecide k j v t ≠ .fault r := by
  unfold pollDecide
  split
  · split <;> nofun
  · nofun

/-- A lock-protected access faults only where what follows does. -/
theorem locked_ne_fault {k : Nat} {w : BusWord} {s : State} {after : Result → State → Answer State}
    (hafter : ∀ v u r, after v u ≠ .fault r) (r : Fault) :
    withRegisterLock (.process k) s (transact w) (orRaised k after) ≠ .fault r :=
  withRegisterLock_ne_fault (transact_ne_fault w) (orRaised_ne_fault hafter) r

theorem initAction_ne_fault (k : Nat) (l : InitLabel) (s : State) (r : Fault) : initAction k l s ≠ .fault r := by
  cases l with
  | i8 => nofun
  | _ => exact locked_ne_fault (fun _ _ _ => next_ne_fault) r

theorem seqStep_ne_fault (k : Nat) (q : OpSeq) (s : State) (r : Fault) : seqStep k q s ≠ .fault r := by
  cases q with
  | bus t =>
    exact withRegisterLock_ne_fault (after := fun u => .next (u.endOp k u.result)) (transact_ne_fault t)
      (fun _ _ => next_ne_fault) r
  | ctrl w => exact andThen_ne_fault (transactCtrl_ne_fault w s) (fun _ _ => next_ne_fault) r
  | tx j =>
    simp only [seqStep, txStep]
    split
    · exact locked_ne_fault (pollDecide_ne_fault k j) r
    · exact locked_ne_fault (fun _ _ _ => next_ne_fault) r
    · nofun
  | popWait _ => nofun
  | popDeq _ => nofun
  | init l =>
    simp only [seqStep, initStep]
    split
    · nofun
    · split
      · nofun
      · exact initAction_ne_fault k l s r
  | teardown l f =>
    simp only [seqStep, teardownStep]
    split
    · nofun
    · split
      · nofun
      · split <;> nofun

theorem handlerStep_ne_fault (s : State) (r : Fault) : handlerStep s ≠ .fault r := by
  unfold handlerStep
  split
  case h_2 =>
    refine andThen_ne_fault (transact_ne_fault _ _) (fun t q => ?_) r
    unfold recvDecide
    split <;> nofun
  all_goals nofun

theorem asProcess_ne_fault {s : State} {f : State → Answer State} (h : ∀ r, f s ≠ .fault r) (r : Fault) :
    asProcess s f ≠ .fault r := by
  unfold asProcess
  split
  · exact h r
  · nofun

theorem procStep_ne_fault (k : Nat) (s : State) (r : Fault) : procStep k s ≠ .fault r := by
  unfold procStep
  split
  · exact seqStep_ne_fault _ _ _ r
  · nofun

theorem take_ne_fault (e : Event) (s : State) (r : Fault) : take e s ≠ .fault r := by
  cases e with
  | start k q => exact asProcess_ne_fault (f := fun t => .next (start k q t)) (fun _ => next_ne_fault) r
  | proc k => exact asProcess_ne_fault (procStep_ne_fault k s) r
  | handler => exact handlerStep_ne_fault s r
  | _ => nofun

theorem step_ne_fault (s : State) (r : Fault) : step s ≠ .fault r := by
  unfold step takeNext
  split
  · split
    · nofun
    · exact take_ne_fault _ _ r
  · nofun

end Sys2Proof.Machine
end

section
/-! The invariant of the machine (spec/10_state.md): each named update keeps it, so every move does. -/

namespace Sys2Proof.Machine

namespace StateInv

variable {s t : State}

/-- The invariant does not speak of the schedule. -/
theorem withSchedule (h : StateInv s) (es : List Event) : StateInv { s with schedule := es } := { h with }

theorem setSeq {k : Nat} {q : OpSeq} (h : StateInv s)
    (inside : q.configuring = true → ∃ q', s.seqOf k = some q' ∧ q'.configuring = true) : StateInv (s.setSeq k q) :=
  { h with oneInit := (State.setSeq_countP_le inside).trans h.oneInit }

/-- A position outside `INIT` is no second one. -/
theorem setSeq_outside {k : Nat} {q : OpSeq} (h : StateInv s) (outside : q.configuring = false) :
    StateInv (s.setSeq k q) :=
  h.setSeq fun inside => absurd (outside.symm.trans inside) (by decide)

theorem endOp (h : StateInv s) (k : Nat) (r : Result) : StateInv (s.endOp k r) :=
  { h with oneInit := (State.endOp_countP_le s k r).trans h.oneInit }

theorem spawn (h : StateInv s) : StateInv (spawn s) :=
  { h with oneInit := by simpa [Machine.spawn, Proc.idle, Proc.configuring] using h.oneInit }

theorem returns (h : StateInv s) (r : Result) : StateInv (s.returns r) := { h with }

theorem setHandler (h : StateInv s) {q q' : HandlerSeq} (running : s.handler = some q') : StateInv (s.setHandler q) :=
  { h with handlerPosition := by simpa [running] using h.handlerPosition }

theorem interruptEntry (h : StateInv s) (enabled : s.entryEnabled = true) : StateInv s.interruptEntry :=
  have attached : s.handlerAttached = true := by simp_all [State.entryEnabled]
  { h with handlerPosition := rfl, handlerOwned := fun _ => attached }

theorem interruptReturn (h : StateInv s) : StateInv s.interruptReturn :=
  { h with handlerPosition := rfl, handlerOwned := nofun }

/-- A cursor advanced modulo C is in `[0, C)` again (R39). -/
theorem advance_lt (h : StateInv s) (cursor : Nat) : (cursor + 1) % s.cfg.capacity < s.cfg.capacity :=
  Nat.mod_lt _ (Nat.zero_lt_of_lt h.readBound)

theorem enqueue (h : StateInv s) (b : Byte) : StateInv (s.enqueue b) :=
  { h with storageLength := by simpa using h.storageLength, writeBound := h.advance_lt _ }

theorem dequeue (h : StateInv s) : StateInv s.dequeue := { h with readBound := h.advance_lt _ }

theorem countByte (h : StateInv s) : StateInv s.countByte :=
  { h with counterBound := Nat.mod_lt _ (by positivity) }

theorem resetCounter (h : StateInv s) : StateInv { s.returns .noValue with txCounter := 0 } :=
  { h with counterBound := Nat.two_pow_pos _ }

theorem drained (h : StateInv s) (line : List Byte) : StateInv { s with txLine := line, txHold := none } := { h with }

theorem consumed (h : StateInv s) (line : List Byte) : StateInv { s with rxLine := line } := { h with }

theorem addFault (h : StateInv s) (f : Fault) : StateInv (s.addFault f) := { h with }

/-- There is room for one more held byte (R150). -/
theorem hold (h : StateInv s) (room : s.rxFifo.length < s.cfg.rxDepth) (b : Byte) :
    StateInv { s with rxFifo := s.rxFifo ++ [b] } :=
  { h with fifoBound := by simpa using room }

/-- The handler is not attached before `I8` nor after `T1` (R44). -/
theorem detached (h : StateInv s)
    (outside : s.lifecycle ∉ [.hardwareConfigured, .interruptsEnabled, .registered, .running]) :
    s.handlerAttached = false := by
  by_contra attached
  exact outside (by simpa using h.attachedWhile (by simpa using attached))

/-- Another lifecycle state, one of those with an attached handler if it is attached. -/
theorem setLifecycle {l : Lifecycle} (h : StateInv s) (attached : s.handlerAttached = true →
    l = .hardwareConfigured ∨ l = .interruptsEnabled ∨ l = .registered ∨ l = .running) : StateInv (s.setLifecycle l) :=
  { h with attachedWhile := attached }

/-- Another lifecycle state while the handler is not attached. -/
theorem setLifecycle_detached (h : StateInv s)
    (outside : s.lifecycle ∉ [.hardwareConfigured, .interruptsEnabled, .registered, .running]) (l : Lifecycle) :
    StateInv (s.setLifecycle l) :=
  h.setLifecycle fun attached => absurd (h.detached outside) (by simp [attached])

theorem attachHandler (h : StateInv s) (configured : s.lifecycle = .hardwareConfigured) : StateInv s.attachHandler :=
  { h with handlerOwned := fun _ => rfl, handlerLine := fun _ => rfl, attachedWhile := fun _ => .inl configured }

theorem detachHandler (h : StateInv s) (idle : s.inHandler = false) (l : Lifecycle) :
    StateInv { s with handlerAttached := false, lifecycle := l } :=
  { h with
    handlerOwned := fun running => absurd (idle.symm.trans running) (by decide)
    handlerLine := nofun
    attachedWhile := nofun }

theorem scrambleUart (h : StateInv s) : StateInv s.scrambleUart :=
  { h with fifoBound := List.length_take_le _ _ }

theorem createInstance (h : StateInv s) : StateInv s.createInstance where
  storageLength := by simp
  readBound := Nat.zero_lt_of_lt h.readBound
  writeBound := Nat.zero_lt_of_lt h.readBound
  counterBound := Nat.two_pow_pos _
  fifoBound := h.fifoBound
  registerLockFree := rfl
  bufferLockFree := rfl
  handlerPosition := rfl
  handlerOwned := nofun
  handlerLine := nofun
  attachedWhile := nofun
  oneInit := h.oneInit

/-- An access of a process context keeps the invariant, as long as it starts no second `INIT`. -/
theorem access (h : StateInv s) (f : AccessFrame s t) (oneInit : t.procs.countP Proc.configuring ≤ 1) : StateInv t where
  storageLength := by rw [f.storage, f.cfg]; exact h.storageLength
  readBound := by rw [f.readCursor, f.cfg]; exact h.readBound
  writeBound := by rw [f.writeCursor, f.cfg]; exact h.writeBound
  counterBound := by rw [f.txCounter, f.cfg]; exact h.counterBound
  fifoBound := by rw [f.cfg]; exact f.fifo.trans h.fifoBound
  registerLockFree := f.registerLock
  bufferLockFree := f.bufferLock.trans h.bufferLockFree
  handlerPosition := by rw [f.inHandler, f.handler]; exact h.handlerPosition
  handlerOwned := by rw [f.inHandler, f.handlerAttached]; exact h.handlerOwned
  handlerLine := by rw [f.handlerAttached, f.irqId, f.cfg]; exact h.handlerLine
  attachedWhile := by
    rw [f.handlerAttached]
    intro attached
    rcases f.lifecycle with same | ⟨-, new⟩ | ⟨-, new⟩
    · rw [same]; exact h.attachedWhile attached
    · exact .inl new
    · exact .inr (.inl new)
  oneInit := oneInit

/-- `RECV` keeps the invariant. -/
theorem receive (h : StateInv s) (f : ReceiveFrame s t) (running : s.handler = some .recv) : StateInv t where
  storageLength := by rw [f.storage, f.cfg]; exact h.storageLength
  readBound := by rw [f.readCursor, f.cfg]; exact h.readBound
  writeBound := by rw [f.writeCursor, f.cfg]; exact h.writeBound
  counterBound := by rw [f.txCounter, f.cfg]; exact h.counterBound
  fifoBound := by rw [f.cfg]; exact f.fifo.trans h.fifoBound
  registerLockFree := f.registerLock.trans h.registerLockFree
  bufferLockFree := f.bufferLock.trans h.bufferLockFree
  handlerPosition := by
    have inside : s.inHandler = true := by simpa [running] using h.handlerPosition
    rcases f.position with ⟨same, goesOn⟩ | ⟨ended, noPosition⟩
    · rw [same, goesOn, inside]
    · rw [ended, noPosition]; rfl
  handlerOwned := by
    rw [f.handlerAttached]
    exact fun _ => h.handlerOwned (by simpa [running] using h.handlerPosition)
  handlerLine := by rw [f.handlerAttached, f.irqId, f.cfg]; exact h.handlerLine
  attachedWhile := by rw [f.handlerAttached, f.lifecycle]; exact h.attachedWhile
  oneInit := by rw [f.procs]; exact h.oneInit

end StateInv

/-- What comes after an access starts no second `INIT`: only `I1` puts a context into it, and only while no other is inside
(R191). -/
theorem After.countP_configuring_le_one {k : Nat} {q : OpSeq} {u t : State} (h : After k q u t) (position : u.seqOf k = some q)
    (first : q = .init .i1 → u.initUnderWay = false) (one : u.procs.countP Proc.configuring ≤ 1) :
    t.procs.countP Proc.configuring ≤ 1 := by
  cases h with
  | raised _ => exact (State.endOp_countP_le _ _ _).trans one
  | busEnd => exact (State.endOp_countP_le _ _ _).trans one
  | pollAgain _ => exact one
  | polled _ _ _ => exact (State.setSeq_countP_le (by simp [OpSeq.configuring])).trans one
  | sent _ => exact (State.setSeq_countP_le (by simp [OpSeq.configuring])).trans one
  | @nextInit l =>
    by_cases isFirst : l = .i1
    · have noneInside : u.procs.countP Proc.configuring = 0 := State.countP_configuring_eq_zero (first (by rw [isFirst]))
      exact (countP_modify_le _ _ _ _).trans (by omega)
    · exact (State.setSeq_countP_le fun _ => ⟨_, position, by simpa [OpSeq.configuring] using isFirst⟩).trans one
  | configured _ =>
    exact (State.setSeq_countP_le (s := u.setLifecycle .hardwareConfigured) fun _ => ⟨_, position, rfl⟩).trans one
  | enabled _ => exact (State.endOp_countP_le _ _ _).trans one

/-- `COUNT` keeps the invariant: the counter wraps and no context enters `INIT`. -/
theorem StateInv.countStep {s : State} (h : StateInv s) (k : Nat) (j : TxJob) : StateInv (countStep k j s) := by
  unfold Machine.countStep
  split
  · exact h.countByte.setSeq_outside rfl
  · exact h.countByte.endOp _ _

/-- The steps of `TEARDOWN` keep the invariant: `T1` detaches the handler, and after it the handler stays detached. -/
theorem StateInv.teardownAction {s : State} {l : TeardownLabel} {f : Option BringUpError} (h : StateInv s) (k : Nat)
    (idle : l = .t1 → s.inHandler = false) (needs : s.lifecycle = l.needs f) : StateInv (teardownAction k l f s) := by
  cases l with
  | t1 => exact (h.detachHandler (idle rfl) _).setSeq_outside rfl
  | t2 => exact (h.setLifecycle_detached (by simp [needs, TeardownLabel.needs]) _).setSeq_outside rfl
  | t3 =>
    refine (h.scrambleUart.setLifecycle_detached ?_ _).setSeq_outside rfl
    cases f <;> simp [needs, TeardownLabel.needs]
  | t4 => exact (h.setLifecycle_detached (by simp [needs, TeardownLabel.needs]) _).endOp _ _

/-- The platform keeps the invariant. -/
theorem StateInv.platformStep {s : State} (h : StateInv s) (p : PlatformStep) : StateInv (platformStep p s) := by
  cases p <;> simp only [Machine.platformStep] <;> split
  case powerUp.isTrue => exact h.scrambleUart
  case create.isTrue => exact h.createInstance
  case map.isTrue new => exact h.setLifecycle_detached (by simp [new]) _
  case mapFailed.isTrue => exact h.returns _
  case register.isTrue => exact h.setLifecycle fun _ => .inr (.inr (.inl rfl))
  case run.isTrue => exact h.setLifecycle fun _ => .inr (.inr (.inr rfl))
  all_goals exact h

/-- Starting an operation puts no context past the first step of `INIT` (R191). -/
theorem Request.begins_outside {r : Request} {q : OpSeq} (h : r.begins = .inl q) : q.configuring = false := by
  unfold Request.begins at h
  split at h <;> cases h <;> rfl

/-- Every move keeps the invariant. -/
theorem Move.inv {e : Event} {s t : State} (m : Move e s t) (h : StateInv s) : StateInv t := by
  cases m with
  | still => exact h
  | spawned => exact h.spawn
  | begun _ begins => exact h.setSeq_outside (Request.begins_outside begins)
  | answered _ _ => exact h.endOp _ _
  | @access k q w _ u _ position _ first _ hu ha =>
    have procs : (u.setRegisterLock none).procs = s.procs := (transact_frame hu).1.procs
    have under : (u.setRegisterLock none).initUnderWay = s.initUnderWay := by simp only [State.initUnderWay, procs]
    exact h.access (access_frame hu ha) (ha.countP_configuring_le_one ((State.seqOf_congr procs k).trans position)
      (fun i1 => under.trans (first i1)) (by rw [procs]; exact h.oneInit))
  | controlled _ hu =>
    rcases transactCtrl_cases hu with ⟨-, rfl⟩ | ⟨r, rfl⟩
    · exact h.resetCounter.endOp _ _
    · exact (h.returns r).endOp _ _
  | counted _ _ => exact h.countStep _ _
  | woken _ _ => exact h.setSeq_outside rfl
  | dequeued _ _ => exact h.dequeue.endOp _ _
  | attached position configured => exact (h.attachHandler configured).setSeq fun _ => ⟨_, position, rfl⟩
  | tornDown _ quiet needs => exact h.teardownAction _ (fun t1 => (quiet t1).1) needs
  | cancelled _ => exact h.endOp _ _
  | entered enabled => exact h.interruptEntry enabled
  | received running hu ht => exact h.receive (receive_frame hu ht) running
  | enqueued running _ => exact (h.enqueue _).setHandler running
  | notified running => exact h.setHandler running
  | returned _ => exact h.interruptReturn
  | drained _ _ => exact h.drained _
  | lost _ _ => exact h.consumed _
  | held _ room => exact (h.hold room _).consumed _
  | overrun _ _ => exact (h.addFault _).consumed _
  | platform p => exact h.platformStep p

/-- Settles O28, from the moves of a step. -/
theorem everyStepKeepsTheInvariant : Obligations.EveryStepKeepsTheInvariant := by
  intro s t h hstep
  obtain ⟨-, ⟨-, rfl⟩ | ⟨e, es, -, m⟩⟩ := step_eq_next hstep
  · exact h
  · exact m.inv (h.withSchedule es)

/-! ### Reset -/

/-- Settles O26: each field of the state after reset is the one R47 gives, or the free value. -/
theorem resetState : Obligations.ResetState := by
  unfold Obligations.ResetState
  simp [State.resetWith, State.notEmpty, State.mapped, Lifecycle.mapped, State.entryEnabled, State.seqOf, FaultSet.empty]

/-- Settles O27: the cursors and the counter start at 0, with no context and no handler; the sizes are the premises. -/
theorem resetMeetsTheInvariant : Obligations.ResetMeetsTheInvariant := by
  intro c d valid storageLength fifoBound
  have capacity : 0 < c.capacity := Nat.lt_of_lt_of_le Nat.zero_lt_two (c.valid_iff.1 valid).1
  exact {
    storageLength, fifoBound
    readBound := capacity
    writeBound := capacity
    counterBound := Nat.two_pow_pos _
    registerLockFree := rfl
    bufferLockFree := rfl
    handlerPosition := rfl
    handlerOwned := nofun
    handlerLine := nofun
    attachedWhile := nofun
    oneInit := Nat.zero_le _ }

/-! ### The rules of the whole machine, step by step -/

/-- Settles O29, from the faults of a move, and because no part of a step answers a fault. -/
theorem faultsOnlyGrow : Obligations.FaultsOnlyGrow := by
  refine fun s => ⟨fun t hstep => ?_, step_ne_fault s⟩
  obtain ⟨-, ⟨-, rfl⟩ | ⟨e, es, first, m⟩⟩ := step_eq_next hstep
  · exact .inl (FaultSet.subset_refl _)
  · simpa [first] using m.faults

/-- Settles O30, from the lines of a move. -/
theorem linesMoveOneWay : Obligations.LinesMoveOneWay := by
  intro s t hstep
  obtain ⟨-, ⟨-, rfl⟩ | ⟨e, es, first, m⟩⟩ := step_eq_next hstep
  · exact ⟨.inl rfl, .inl rfl⟩
  · simpa [first] using And.intro m.txLine m.rxLine

/-- Settles O31, from the frame that all moves share. -/
theorem parametersNeverChange : Obligations.ParametersNeverChange := by
  intro s t hstep
  obtain ⟨-, ⟨empty, rfl⟩ | ⟨e, es, first, m⟩⟩ := step_eq_next hstep
  · simp [empty]
  · simpa [first] using m.cfg_schedule

/-- Settles O32, from the counter of a move. -/
theorem counterMovesOnlyByItsOperations : Obligations.CounterMovesOnlyByItsOperations := by
  intro s t hstep moved
  obtain ⟨-, ⟨-, rfl⟩ | ⟨e, es, first, m⟩⟩ := step_eq_next hstep
  · exact absurd rfl moved
  · simp only [first, List.head?_cons, Option.some.injEq]
    exact m.txCounter.resolve_left moved

/-- Settles O33, from the storage and the cursors of a move. -/
theorem bufferChangesOnlyAtEnqAndDeq : Obligations.BufferChangesOnlyAtEnqAndDeq := by
  intro s t hstep notCreated
  obtain ⟨-, ⟨-, rfl⟩ | ⟨e, es, first, m⟩⟩ := step_eq_next hstep
  · exact ⟨.inl ⟨rfl, rfl⟩, .inl rfl⟩
  · have notNew : e ≠ .platform .create := by simpa [first] using notCreated
    simp only [first, List.head?_cons, Option.some.injEq]
    exact ⟨m.storage_writeCursor notNew, m.readCursor notNew⟩

/-- Settles O34, from the lifecycle of a move. -/
theorem lifecycleMovesAlongItsTransitions : Obligations.LifecycleMovesAlongItsTransitions := by
  intro s t hstep
  obtain ⟨-, ⟨-, rfl⟩ | ⟨e, es, -, m⟩⟩ := step_eq_next hstep
  · exact Lifecycle.allowed_refl _
  · exact m.lifecycle

/-- Settles O35, from the registers of a move. -/
theorem reservedBitsComeOnlyFromReset : Obligations.ReservedBitsComeOnlyFromReset := by
  intro s t hstep mapped
  obtain ⟨-, ⟨-, rfl⟩ | ⟨e, es, -, m⟩⟩ := step_eq_next hstep
  · exact ⟨.inl rfl, .inl rfl, .inl rfl⟩
  · exact m.registers mapped

/-- Settles O36: the step replaces one entry of the list. -/
theorem instancesShareNothing : Obligations.InstancesShareNothing := by
  intro n m sys sys' hstep other
  unfold stepInstance at hstep
  split at hstep
  · cases hstep; rfl
  · split at hstep <;> cases hstep
    exact List.getElem?_set_ne other.symm

end Sys2Proof.Machine
end

section
/-! Accesses under the register lock (spec/20_memory.md R66, spec/40_register_access.md R100): where the lock is free, an access of
a process context is the register's own rule on the state itself, or the unmapped access. -/

namespace Sys2Proof.Machine

/-! ### The lock around a register's own rule -/

/-- A register's own rule does not look at the lock. -/
theorem exec_setRegisterLock (i : Instr) (s : State) (a : Option Agent) :
    exec i (s.setRegisterLock a) = andThen (exec i s) (fun u => .next (u.setRegisterLock a)) := by
  have mark : (s.setRegisterLock a).markConfigWrite = s.markConfigWrite.setRegisterLock a := by
    rw [State.markConfigWrite_eq_configFaults, State.markConfigWrite_eq_configFaults]; rfl
  cases i with
  | rdRxd => simp only [exec, execRdRxd, State.setRegisterLock_rxFifo]; split <;> rfl
  | wrTxd v => simp only [exec, execWrTxd, State.setRegisterLock_txHold]; split <;> rfl
  | wrFcr v =>
    cases ok : fcrAccepted s.cfg (lowByte v) <;> simp only [exec, execWrFcr, State.setRegisterLock_cfg, ok] <;> rfl
  | wrIer v =>
    cases ok : ierAccepted s.cfg (lowByte v) <;> simp only [exec, execWrIer, State.setRegisterLock_cfg, ok] <;> rfl
  | wrMode v =>
    cases ok : modeAccepted s.cfg (lowByte v) <;> simp only [exec, execWrMode, State.setRegisterLock_cfg, ok] <;> rfl
  | wrLcr v =>
    cases ok : lcrAccepted s.cfg (lowByte v) <;> simp only [exec, execWrLcr, State.setRegisterLock_cfg, ok, mark] <;> rfl
  | wrDll v => simp only [exec, execWrDll, mark]; rfl
  | wrDlh v => simp only [exec, execWrDlh, mark]; rfl
  | _ => rfl

/-- Taking and releasing a free lock leaves the state as it was (R66). -/
theorem State.setRegisterLock_none {s : State} (free : s.registerLock = none) : s.setRegisterLock none = s := by
  rw [← free]; rfl

/-- A register's own rule that completes does so with the lock held too. -/
theorem exec_locked {i : Instr} {s u : State} (a : Option Agent) (completes : exec i s = .next u) :
    exec i (s.setRegisterLock a) = .next (u.setRegisterLock a) := by
  rw [exec_setRegisterLock, completes, andThen_next]

/-- A register transaction that completes leaves the free lock free (R100). -/
theorem setRegisterLock_of_completes {s u : State} {r : Reg} {write : Bool} {v : Word} {i : Instr}
    (free : s.registerLock = none) (access : accessInstr r write v = some i) (completes : exec i s = .next u) :
    u.setRegisterLock none = u := by
  have isAccess : i.access ≠ none := by simp [(accessInstr_eq_some_iff.1 access).1]
  exact State.setRegisterLock_none ((exec_effect isAccess completes).block.registerLock.trans free)

section
variable {s u : State} {k off : Nat} {i : Instr} (r : Reg) (valid : s.cfg.valid = true) (mapped : s.mapped = true)
  (free : s.registerLock = none) (offset : s.cfg.offset r = off)
include valid mapped free offset

/-- A lock-protected write that reaches a register goes on from the state the register's own rule leaves (R66). -/
theorem lockedWrite_of_completes {v : Word} {after : State → Answer State} (reaches : s.cfg.reachable s.dle r true = true)
    (access : accessInstr r true v = some i) (completes : exec i s = .next u) (result : u.result = .noValue) :
    lockedWrite k v off s after = after u :=
  (lockedWrite_eq valid mapped free offset reaches access (exec_locked _ completes) result).trans
    (congrArg after (setRegisterLock_of_completes free access completes))

/-- A lock-protected read that reaches a register goes on with its result (R66). -/
theorem lockedRead_of_completes {w : Word} {after : Result → State → Answer State}
    (reaches : s.cfg.reachable s.dle r false = true) (access : accessInstr r false 0#32 = some i)
    (completes : exec i s = .next u) (result : u.result = .word w) : lockedRead k off s after = after (.word w) u :=
  (lockedRead_eq valid mapped free offset reaches access (exec_locked _ completes) result).trans
    (congrArg (after (.word w)) (setRegisterLock_of_completes free access completes))

end

/-- An access while the registers are not mapped is the unmapped access, under the lock too (R75). -/
theorem withRegisterLock_transact_of_unmapped {s : State} {k : Nat} {w : BusWord} {after : State → Answer State}
    (free : s.registerLock = none) (unmapped : s.mapped = false) :
    withRegisterLock (.process k) s (transact w) after = after s.unmappedAccess := by
  have same : transact w (s.setRegisterLock (some (.process k))) =
      .next (s.setRegisterLock (some (.process k))).unmappedAccess :=
    if_neg (by rw [show (s.setRegisterLock (some (.process k))).mapped = s.mapped from rfl, unmapped]; decide)
  rw [withRegisterLock_free free, same]
  exact congrArg (fun t => after t.unmappedAccess) (State.setRegisterLock_none free)

/-! ### Control operations and raw lines -/

/-- Settles O13: the word with `OP` 1 decodes to `CTRL.GET`, which returns the counter that a `CTRL.RESET` has zeroed. -/
theorem ctrlGetReturnsCounter : Obligations.CtrlGetReturnsCounter := fun arg _ s =>
  ⟨transactCtrl_of_ok s (decodeCtrl_ctrlWord_one arg), exec_ctrlGet arg s, rfl⟩

/-- Settles O17: the part of what a register's own rule can do that concerns the block. -/
theorem transactionsLeaveTheBlockAlone : Obligations.TransactionsLeaveTheBlockAlone := by
  intro i s t access completes
  have effect := exec_effect access completes
  exact ⟨effect.block, effect.fifo, effect.faults⟩

/-- Settles O19: the step of a raw line is its transaction under the lock, which decodes as the state before it says. -/
theorem stepRunsTheDecodedTransaction : Obligations.StepRunsTheDecodedTransaction := by
  intro s k w i es valid next position may free mapped decodes
  rw [step_proc valid next may position]
  simp only [seqStep, busStep]
  rw [withRegisterLock_free (s := { s with schedule := es }) free]
  have runs : transact w (State.setRegisterLock { s with schedule := es } (some (.process k))) =
      exec i { s with schedule := es, registerLock := some (.process k) } := by
    have mapped' : State.mapped { s with schedule := es, registerLock := some (.process k) } = true := mapped
    have decodes' : decodeBus s.cfg (State.dle { s with schedule := es, registerLock := some (.process k) }) w = .ok i :=
      decodes
    simp only [State.setRegisterLock, transact, mapped', decodes', if_true]
  rw [runs]
  rfl

/-- Settles O20: a control word runs the operation it decodes to. -/
theorem stepRunsTheDecodedControl : Obligations.StepRunsTheDecodedControl := by
  intro s k w i es valid next position may decodes
  rw [step_proc valid next may position, seqStep, ctrlStep, transactCtrl_of_ok _ decodes]

/-! ### Accesses to unmapped registers -/

/-- A transaction on unmapped registers is the unmapped access, whatever its word (R75). -/
theorem transact_of_unmapped {s : State} (w : BusWord) (unmapped : s.mapped = false) :
    transact w s = .next s.unmappedAccess :=
  if_neg (by simp [unmapped])

/-- A transaction on mapped registers raises nothing (R100). -/
theorem transact_result_ne_raised {w : BusWord} {s t : State} (mapped : s.mapped = true) (h : transact w s = .next t) (e : Exc) :
    t.result ≠ .raised e := by
  rcases transact_eq_next h with ⟨unmapped, -⟩ | ⟨-, i, -, access, completes⟩
  · simp [mapped] at unmapped
  · exact (exec_effect access completes).result e

/-- Every `INIT` step needs mapped registers (R180). -/
theorem InitLabel.needs_mapped (l : InitLabel) : l.needs.mapped = true := by
  cases l <;> rfl

/-- An `INIT` step in another lifecycle state than its own is refused (R180, R206). -/
theorem initStep_of_wrong_state {k : Nat} {l : InitLabel} {s : State} (wrong : s.lifecycle ≠ l.needs) :
    initStep k l s = .refused .badLifecycle :=
  if_pos wrong

/-- A raw line on unmapped registers ends with `IOFault` (R75, R203). -/
theorem busStep_of_unmapped {s : State} (k : Nat) (w : BusWord) (free : s.registerLock = none) (unmapped : s.mapped = false) :
    busStep k w s = .next (s.unmappedAccess.endOp k (.raised .ioFault)) :=
  withRegisterLock_transact_of_unmapped free unmapped

/-- A `WRITE_CHAR` or `WRITE_STR` that makes its access on unmapped registers ends with `IOFault` (R75, R203). -/
theorem txStep_of_unmapped {s : State} (k : Nat) {j : TxJob} (accesses : j.label ≠ .count) (free : s.registerLock = none)
    (unmapped : s.mapped = false) : txStep k j s = .next (s.unmappedAccess.endOp k (.raised .ioFault)) := by
  unfold txStep
  split
  next => exact withRegisterLock_transact_of_unmapped free unmapped
  next => exact withRegisterLock_transact_of_unmapped free unmapped
  next isCount => exact absurd isCount accesses

/-- A handler at `RECV` on unmapped registers ends (log 18). -/
theorem handlerStep_of_unmapped {s : State} (recv : s.handler = some .recv) (unmapped : s.mapped = false) :
    handlerStep s = .next s.unmappedAccess.interruptReturn := by
  simp only [handlerStep, recv, recvStep, regRead, transact_of_unmapped _ unmapped, andThen_next, recvDecide,
    State.unmappedAccess_result]

/-- Settles O15: each agent that accesses unmapped registers ends as the unmapped access says. -/
theorem unmappedTransactionIsIOFault : Obligations.UnmappedTransactionIsIOFault := by
  intro w s
  refine ⟨transact_of_unmapped w, fun mapped _ => transact_result_ne_raised mapped, ?_, ?_⟩
  · intro k q es valid may free unmapped position next
    rw [step_proc valid next may position]
    refine ⟨?_, ?_⟩
    · rintro (rfl | ⟨j, rfl, accesses⟩)
      · exact (busStep_of_unmapped (s := { s with schedule := es }) k w free unmapped).trans
          (congrArg _ (State.endOp_eq_set _ _ _))
      · exact (txStep_of_unmapped (s := { s with schedule := es }) k accesses free unmapped).trans
          (congrArg _ (State.endOp_eq_set _ _ _))
    · rintro l rfl
      refine initStep_of_wrong_state fun same : s.lifecycle = l.needs => ?_
      simp [State.mapped, same, l.needs_mapped] at unmapped
  · intro es valid unmapped recv next
    rw [step_cons valid next]
    exact handlerStep_of_unmapped (s := { s with schedule := es }) recv unmapped

end Sys2Proof.Machine
end

section
/-! Proofs of the family of spec/41_transmit.md, the writers: `POLL`, `SEND` and `COUNT` one by one, then whole runs. -/

namespace Sys2Proof.Machine

/-! ### Short runs -/

/-- Two steps. -/
theorem run_two {s t u : State} (first : step s = .next t) (second : step t = .next u) :
    Host.Core.run Sys2Proof.core 2 s = .next u := by
  rw [run_succ first, run_succ second, run_zero]

/-- Four steps. -/
theorem run_four {s t u v w : State} (first : step s = .next t) (second : step t = .next u) (third : step u = .next v)
    (fourth : step v = .next w) : Host.Core.run Sys2Proof.core 4 s = .next w := by
  rw [run_succ first, run_succ second, run_two third fourth]

/-! ### Positions -/

@[simp] theorem State.seqOf_setSeq_ne {k m : Nat} (s : State) (q : OpSeq) (h : k ≠ m) : (s.setSeq k q).seqOf m = s.seqOf m := by
  simp [State.seqOf_setSeq, h]

/-- A context with a position moves on. -/
theorem State.seqOf_setSeq_self {s : State} {k : Nat} {q : OpSeq} (q' : OpSeq) (h : s.seqOf k = some q) :
    (s.setSeq k q').seqOf k = some q' := by
  simp [State.seqOf_setSeq, State.lt_of_seqOf h]

/-- A position after an operation's end was there before. -/
theorem State.seqOf_of_endOp {s : State} {k m : Nat} {r : Result} {q : OpSeq} (h : (s.endOp k r).seqOf m = some q) :
    s.seqOf m = some q := by
  rw [State.seqOf_endOp] at h
  split at h
  · cases h
  · exact h

/-- A position after a move to another one was there before. -/
theorem State.seqOf_of_setSeq {s : State} {k m : Nat} {q q' : OpSeq} (h : (s.setSeq k q').seqOf m = some q) (other : q' ≠ q) :
    s.seqOf m = some q := by
  rw [State.seqOf_setSeq] at h
  split at h
  · exact absurd (Option.some.inj h) other
  · exact h

/-- Only the last of two positions counts. -/
@[simp] theorem State.setSeq_setSeq (s : State) (k : Nat) (q q' : OpSeq) : (s.setSeq k q).setSeq k q' = s.setSeq k q' := by
  simp [State.setSeq, Function.comp_def, List.modify_modify_eq]

/-- An operation that ends leaves no trace of its positions. -/
@[simp] theorem State.endOp_setSeq (s : State) (k : Nat) (q : OpSeq) (r : Result) :
    (s.setSeq k q).endOp k r = s.endOp k r := by
  simp [State.setSeq, State.endOp, Function.comp_def, List.modify_modify_eq]

/-! ### `POLL` -/

/-- What a read of Line Status returns (R101). -/
def State.lineStatusWord (s : State) : Word :=
  readResult (Config.freeUpper (s.draws + 1)) (lineStatus s.cfg.lsrTxrdy (Config.freeByte s.draws) s.txReady)

/-- The state after a read of Line Status (R101). -/
def State.lineStatusRead (s : State) : State := { s with result := .word s.lineStatusWord, draws := s.draws + 2 }

theorem exec_rdLsr_eq_lineStatusRead (s : State) : exec .rdLsr s = .next s.lineStatusRead := exec_rdLsr s

/-- The transmit-ready test on it sees the holding, where the mask is a bit at all (R84). -/
theorem State.anyBit_lineStatusWord (s : State) :
    anyBit s.lineStatusWord s.cfg.lsrTxrdy = (s.txReady && s.cfg.lsrTxrdy != 0x00#8) :=
  anyBit_lineStatus _ _ _ _

section
variable {s : State} {k : Nat} {j : TxJob}

/-- `POLL` goes on to `SEND` where the transmit-ready bit is one and the holding is empty, and else polls again (R130, R131). -/
theorem pollStep_eq (valid : s.cfg.valid = true) (mapped : s.mapped = true) (free : s.registerLock = none) :
    pollStep k j s = .next (if (s.txReady && s.cfg.lsrTxrdy != 0x00#8) = true
      then s.lineStatusRead.setSeq k (.tx { j with label := .send }) else s.lineStatusRead) := by
  refine (lockedRead_of_completes .lsr valid mapped free rfl rfl rfl (exec_rdLsr_eq_lineStatusRead s) rfl).trans ?_
  simp only [State.lineStatusRead, pollDecide, State.anyBit_lineStatusWord]
  split <;> rfl

theorem pollStep_of_held {b : Byte} (valid : s.cfg.valid = true) (mapped : s.mapped = true) (free : s.registerLock = none)
    (held : s.txHold = some b) : pollStep k j s = .next s.lineStatusRead := by
  rw [pollStep_eq valid mapped free, if_neg (by simp [State.txReady, held])]

theorem pollStep_of_empty (valid : s.cfg.valid = true) (mapped : s.mapped = true) (free : s.registerLock = none)
    (mask : s.cfg.lsrTxrdy ≠ 0x00#8) (empty : s.txHold = none) :
    pollStep k j s = .next (s.lineStatusRead.setSeq k (.tx { j with label := .send })) := by
  rw [pollStep_eq valid mapped free, if_pos (by simp [State.txReady, empty, mask])]

/-! ### `SEND` -/

/-- Where the latches are closed `SEND` reaches Transmit Data (R86). -/
theorem sendStep_of_closed {u : State} (valid : s.cfg.valid = true) (mapped : s.mapped = true) (free : s.registerLock = none)
    (closed : s.dle = false) (completes : exec (.wrTxd (zext32 j.cur)) s = .next u) (result : u.result = .noValue) :
    sendStep k j s = .next (u.setSeq k (.tx { j with label := .count })) :=
  lockedWrite_of_completes .txd valid mapped free rfl (by simp [Config.reachable, Config.hiddenByLatch, closed]) rfl completes
    result

/-- On an empty holding the byte is held (R103). -/
theorem sendStep_of_empty (valid : s.cfg.valid = true) (mapped : s.mapped = true) (free : s.registerLock = none)
    (closed : s.dle = false) (empty : s.txHold = none) :
    sendStep k j s =
      .next (({ s with txHold := some j.cur, result := .noValue } : State).setSeq k (.tx { j with label := .count })) := by
  rw [sendStep_of_closed valid mapped free closed (exec_wrTxd_of_empty _ empty) rfl, lowByte_zext32]

/-- On an occupied holding the byte is dropped and the overrun recorded (R103, R139). -/
theorem sendStep_of_held {b : Byte} (valid : s.cfg.valid = true) (mapped : s.mapped = true) (free : s.registerLock = none)
    (closed : s.dle = false) (held : s.txHold = some b) :
    sendStep k j s = .next (((s.addFault .txOverrun).returns .noValue).setSeq k (.tx { j with label := .count })) :=
  sendStep_of_closed valid mapped free closed (exec_wrTxd_of_held _ held) rfl

/-- Where the latches are open and Transmit Data shares its offset with Divisor Latch Low, `SEND` reaches the latch (R86, R248). -/
theorem sendStep_of_open (valid : s.cfg.valid = true) (mapped : s.mapped = true) (free : s.registerLock = none)
    (opened : s.dle = true) (overlaid : s.cfg.offTxd = s.cfg.offDll) :
    sendStep k j s = .next (({ s with dll := j.cur, faults := s.configFaults, result := .noValue } : State).setSeq k
      (.tx { j with label := .count })) := by
  have writes := exec_wrDll (zext32 j.cur) s
  rw [lowByte_zext32] at writes
  exact lockedWrite_of_completes .dll valid mapped free overlaid.symm opened rfl writes rfl

end

/-! ### The steps of a writer -/

section
variable {s : State} {k : Nat} {j : TxJob} {es : List Event}

/-- The step of a context in a `WRITE_CHAR` or `WRITE_STR`. -/
theorem step_writer (valid : s.cfg.valid = true) (next : s.schedule = .proc k :: es) (may : s.processMayStep = true)
    (position : Writing s k j) : step s = txStep k j { s with schedule := es } :=
  step_proc valid next may position

theorem step_poll_of_held {b : Byte} (valid : s.cfg.valid = true) (mapped : s.mapped = true) (may : s.processMayStep = true)
    (free : s.registerLock = none) (held : s.txHold = some b) (position : Writing s k j) (atPoll : j.label = .poll)
    (next : s.schedule = .proc k :: es) : step s = .next (State.lineStatusRead { s with schedule := es }) := by
  rw [step_writer valid next may position]
  simp only [txStep, atPoll]
  exact pollStep_of_held (s := { s with schedule := es }) valid mapped free held

end

/-- The transmit path is open to the writers: the registers are mapped and free, the latches closed, and the transmit-ready bit is
a bit. -/
structure Ready (s : State) : Prop where
  valid  : s.cfg.valid = true
  mask   : s.cfg.lsrTxrdy ≠ 0x00#8
  mapped : s.mapped = true
  closed : s.dle = false
  may    : s.processMayStep = true
  free   : s.registerLock = none

/-- What a step that moves writer `k` on to position `q` leaves alone. -/
structure Moved (k : Nat) (q : OpSeq) (es : List Event) (s t : State) : Prop where
  ready     : Ready t
  cfg       : t.cfg = s.cfg
  mode      : t.mode = s.mode
  txLine    : t.txLine = s.txLine
  txCounter : t.txCounter = s.txCounter
  schedule  : t.schedule = es
  here      : t.seqOf k = some q
  others    : ∀ m, k ≠ m → t.seqOf m = s.seqOf m

section
variable {s : State} {k : Nat} {j : TxJob} {es : List Event}

/-- With the holding empty `POLL` leads to `SEND` (R130). -/
theorem Ready.poll (ready : Ready s) (empty : s.txHold = none) (position : Writing s k j) (atPoll : j.label = .poll)
    (next : s.schedule = .proc k :: es) :
    ∃ t, step s = .next t ∧ Moved k (.tx { j with label := .send }) es s t ∧ t.txHold = none ∧ t.faults = s.faults := by
  obtain ⟨valid, mask, mapped, closed, may, free⟩ := ready
  rw [step_writer valid next may position]
  simp only [txStep, atPoll]
  exact ⟨_, pollStep_of_empty (s := { s with schedule := es }) valid mapped free mask empty,
    ⟨⟨valid, mask, mapped, closed, may, free⟩, rfl, rfl, rfl, rfl, rfl, State.seqOf_setSeq_self _ position,
      fun _ other => State.seqOf_setSeq_ne _ _ other⟩, empty, rfl⟩

/-- With the holding empty `SEND` fills it (R103). -/
theorem Ready.send (ready : Ready s) (empty : s.txHold = none) (position : Writing s k j) (atSend : j.label = .send)
    (next : s.schedule = .proc k :: es) :
    ∃ t, step s = .next t ∧ Moved k (.tx { j with label := .count }) es s t ∧ t.txHold = some j.cur ∧
      t.faults = s.faults := by
  obtain ⟨valid, mask, mapped, closed, may, free⟩ := ready
  rw [step_writer valid next may position]
  simp only [txStep, atSend]
  exact ⟨_, sendStep_of_empty (s := { s with schedule := es }) valid mapped free closed empty,
    ⟨⟨valid, mask, mapped, closed, may, free⟩, rfl, rfl, rfl, rfl, rfl, State.seqOf_setSeq_self _ position,
      fun _ other => State.seqOf_setSeq_ne _ _ other⟩, rfl, rfl⟩

/-- With a byte held `SEND` drops its own and records the overrun (R103, R139). -/
theorem Ready.send_held (ready : Ready s) {b : Byte} (held : s.txHold = some b) (position : Writing s k j)
    (atSend : j.label = .send) (next : s.schedule = .proc k :: es) :
    ∃ t, step s = .next t ∧ Moved k (.tx { j with label := .count }) es s t ∧ t.txHold = some b ∧
      t.faults = s.faults.add .txOverrun := by
  obtain ⟨valid, mask, mapped, closed, may, free⟩ := ready
  rw [step_writer valid next may position]
  simp only [txStep, atSend]
  exact ⟨_, sendStep_of_held (s := { s with schedule := es }) valid mapped free closed held,
    ⟨⟨valid, mask, mapped, closed, may, free⟩, rfl, rfl, rfl, rfl, rfl, State.seqOf_setSeq_self _ position,
      fun _ other => State.seqOf_setSeq_ne _ _ other⟩, held, rfl⟩

end

/-! ### Polling and sending, with the latches open and with two writers -/

/-- Settles O38, by induction on the number of polls: each read leaves the holding, and so the next poll, as it was. -/
theorem pollSpinsWhileAByteIsHeld : Obligations.PollSpinsWhileAByteIsHeld := by
  intro s k n j b es valid mapped may free held position atPoll schedule
  induction n generalizing s with
  | zero =>
    obtain rfl : s.schedule = es := schedule
    exact ⟨s.result, s.draws, rfl⟩
  | succ n ih =>
    rw [List.replicate_succ, List.cons_append] at schedule
    have first := step_poll_of_held valid mapped may free held position atPoll schedule
    obtain ⟨r, d, rest⟩ := ih (State.lineStatusRead { s with schedule := List.replicate n (.proc k) ++ es }) valid mapped may free
      held position rfl
    exact ⟨r, d, by rw [run_succ first, rest, State.lineStatusRead]⟩

/-- Settles O43: the write reaches the latch, and normal mode is not extended mode. -/
theorem sendWithLatchesOpenWritesTheDivisor : Obligations.SendWithLatchesOpenWritesTheDivisor := by
  intro s k j es valid overlaid opened normal mapped may free position atSend next
  have outside : s.configFaults = s.faults.add .configOutsideExtended :=
    if_neg fun extended => Config.modeExt_ne_modeNormal valid (extended.symm.trans normal)
  rw [step_writer valid next may position]
  simp only [txStep, atSend]
  exact ⟨_, sendStep_of_open (s := { s with schedule := es }) valid mapped free opened overlaid, rfl, rfl, outside,
    State.seqOf_setSeq_self _ position⟩

/-- Settles O41: both poll the empty holding, the first `SEND` fills it and the second finds it occupied. -/
theorem twoWritersOverrun : Obligations.TwoWritersOverrun := by
  intro s a b ja jb es apart valid mask mapped closed may free empty positionA positionB pollA pollB next
  have ready : Ready s := ⟨valid, mask, mapped, closed, may, free⟩
  obtain ⟨s1, step1, moved1, empty1, -⟩ := ready.poll empty positionA pollA next
  obtain ⟨s2, step2, moved2, empty2, -⟩ :=
    moved1.ready.poll empty1 ((moved1.others b apart).trans positionB) pollB moved1.schedule
  obtain ⟨s3, step3, moved3, held3, -⟩ :=
    moved2.ready.send empty2 ((moved2.others a apart.symm).trans moved1.here) rfl moved2.schedule
  obtain ⟨s4, step4, moved4, held4, faults4⟩ :=
    moved3.ready.send_held held3 ((moved3.others b apart).trans moved2.here) rfl moved3.schedule
  exact ⟨s4, run_four step1 step2 step3 step4, held4, by simp [faults4], (moved4.others a apart.symm).trans moved3.here,
    moved4.here⟩

/-! ### Whole strings -/

/-- A byte and the carriage return that follows a line feed (R132). -/
def withReturn (b : Byte) : List Byte := if b = lineFeed then [lineFeed, carriageReturn] else [b]

/-- The bytes a writer still has to send, this one first (R132). -/
def TxJob.pending (j : TxJob) : List Byte :=
  j.cur :: ((if j.crNext then [carriageReturn] else []) ++ j.rest.flatMap withReturn)

/-- What the whole operation returns: the count of all input bytes, those before this one included (R133). -/
def TxJob.outcome (j : TxJob) : Result := if j.str then .count (j.n + 1 + j.rest.length) else .noValue

/-- The last byte of a writer: nothing follows, and the operation returns what it owes. -/
theorem TxJob.last {j : TxJob} (h : j.next = none) : j.pending = [j.cur] ∧ j.outcome = j.returned := by
  cases cr : j.crNext <;> cases rest : j.rest <;> simp [TxJob.next, cr, rest] at h
  simp [TxJob.pending, TxJob.outcome, TxJob.returned, cr, rest]

/-- A byte that another one follows: the next `WRITE_CHAR` polls, and its writer has the rest to send. -/
theorem TxJob.goesOn {j j' : TxJob} (h : j.next = some j') :
    j'.label = .poll ∧ j.pending = j.cur :: j'.pending ∧ j'.outcome = j.outcome := by
  cases cr : j.crNext <;> cases rest : j.rest <;> simp [TxJob.next, cr, rest] at h <;> subst h
  case false.cons b tail =>
    refine ⟨rfl, ?_, ?_⟩
    · by_cases feed : b = lineFeed <;> simp [TxJob.pending, withReturn, cr, rest, feed]
    · have count : j.n + 1 + 1 + tail.length = j.n + 1 + (tail.length + 1) := by omega
      simp only [TxJob.outcome, rest, List.length_cons, count]
  all_goals simp [TxJob.pending, TxJob.outcome, cr, rest]

/-- The whole of a `WRITE_STR` (R132, R133). -/
theorem writeStrJob_pending (b : Byte) (rest : List Byte) :
    (writeStrJob b rest).pending = (b :: rest).flatMap withReturn ∧
      (writeStrJob b rest).outcome = .count (b :: rest).length := by
  by_cases feed : b = lineFeed <;>
    simp [writeStrJob, TxJob.pending, TxJob.outcome, withReturn, feed, Nat.add_comm]

/-- Where the transmit path is open and the transmitter runs, a writer before its first byte. -/
structure Sending (k : Nat) (j : TxJob) (s : State) : Prop where
  ready    : Ready s
  normal   : s.mode = s.cfg.modeNormal
  empty    : s.txHold = none
  position : Writing s k j
  atPoll   : j.label = .poll

/-- What a writer has done after the bytes `out`, its counter reduced to CNT_BITS bits. -/
structure Sent (out : List Byte) (es : List Event) (s t : State) : Prop where
  cfg       : t.cfg = s.cfg
  txLine    : t.txLine = s.txLine ++ out
  txCounter : t.txCounter = (s.txCounter + out.length) % 2 ^ s.cfg.cntBits
  empty     : t.txHold = none
  faults    : t.faults = s.faults
  schedule  : t.schedule = es

/-- The steps that bring one byte to the line (R130, R136). -/
def byteSteps (k : Nat) : List Event := [.proc k, .proc k, .proc k, .drain]

/-- `COUNT` ends the operation or goes on to the next `WRITE_CHAR` (R130, R132). -/
theorem countStep_position {s : State} {k : Nat} {j : TxJob} {q : OpSeq} (position : s.seqOf k = some q) :
    (∀ j', j.next = some j' → (countStep k j s).seqOf k = some (.tx j')) ∧
    (j.next = none → (countStep k j s).procs[k]? = some { seq := none, last := some j.returned }) := by
  unfold countStep
  refine ⟨fun j' h => ?_, fun h => ?_⟩
  · rw [h]; exact State.seqOf_setSeq_self (s := s.countByte) _ position
  · rw [h]
    simp [State.endOp, State.lt_of_seqOf position]

/-- What `COUNT` of writer `k` does. -/
structure Counted (k : Nat) (j : TxJob) (es : List Event) (s t : State) : Prop where
  ready     : Ready t
  cfg       : t.cfg = s.cfg
  mode      : t.mode = s.mode
  txLine    : t.txLine = s.txLine
  txHold    : t.txHold = s.txHold
  faults    : t.faults = s.faults
  txCounter : t.txCounter = (s.txCounter + 1) % 2 ^ s.cfg.cntBits
  schedule  : t.schedule = es
  goesOn    : ∀ j', j.next = some j' → t.seqOf k = some (.tx j')
  ends      : j.next = none → t.procs[k]? = some { seq := none, last := some j.returned }

/-- `COUNT` (R130). -/
theorem Ready.count {s : State} {k : Nat} {j : TxJob} {es : List Event} (ready : Ready s) (position : Writing s k j)
    (atCount : j.label = .count) (next : s.schedule = .proc k :: es) :
    ∃ t, step s = .next t ∧ Counted k j es s t := by
  obtain ⟨valid, mask, mapped, closed, may, free⟩ := ready
  obtain ⟨goesOn, ends⟩ := countStep_position (j := j) (s := { s with schedule := es }) position
  rw [step_writer valid next may position]
  simp only [txStep, atCount]
  refine ⟨_, rfl, ?_⟩
  rw [countStep_eq] at goesOn ends ⊢
  exact ⟨⟨valid, mask, mapped, closed, may, free⟩, rfl, rfl, rfl, rfl, rfl, rfl, rfl, goesOn, ends⟩

/-- One byte: polled, sent, counted and drained. -/
theorem Sending.byte {s : State} {k : Nat} {j : TxJob} {es : List Event} (sending : Sending k j s)
    (next : s.schedule = byteSteps k ++ es) :
    ∃ t, Host.Core.run Sys2Proof.core 4 s = .next t ∧ Sent [j.cur] es s t ∧ (∀ j', j.next = some j' → Sending k j' t) ∧
      (j.next = none → t.procs[k]? = some { seq := none, last := some j.returned }) := by
  obtain ⟨ready, normal, empty, position, atPoll⟩ := sending
  obtain ⟨s1, step1, moved1, empty1, faults1⟩ := ready.poll empty position atPoll next
  obtain ⟨s2, step2, moved2, held2, faults2⟩ := moved1.ready.send empty1 moved1.here rfl moved1.schedule
  obtain ⟨s3, step3, counted⟩ := moved2.ready.count moved2.here rfl moved2.schedule
  have cfg : s3.cfg = s.cfg := by rw [counted.cfg, moved2.cfg, moved1.cfg]
  have normal3 : s3.mode = s3.cfg.modeNormal := by rw [cfg, counted.mode, moved2.mode, moved1.mode, normal]
  have step4 := step_drain (es := es) counted.ready.valid counted.schedule
  rw [drain_of_held (s := { s3 with schedule := es }) (counted.txHold.trans held2) normal3] at step4
  refine ⟨_, run_four step1 step2 step3 step4, ?_, fun j' h => ?_,
    counted.ends⟩
  · exact {
      cfg := cfg
      txLine := by simp only [counted.txLine, moved2.txLine, moved1.txLine]
      txCounter := by rw [counted.txCounter, moved2.txCounter, moved2.cfg, moved1.txCounter, moved1.cfg]; rfl
      empty := rfl
      faults := by rw [counted.faults, faults2, faults1]
      schedule := rfl }
  · obtain ⟨valid, mask, mapped, closed, may, free⟩ := counted.ready
    exact ⟨⟨valid, mask, mapped, closed, may, free⟩, normal3, rfl, counted.goesOn j' h, (TxJob.goesOn h).1⟩

/-- The bytes of a writer, one after the other. -/
theorem Sending.all {s : State} {k : Nat} {j : TxJob} {out : List Byte} {es : List Event} (sending : Sending k j s)
    (pending : j.pending = out) (next : s.schedule = (List.replicate out.length (byteSteps k)).flatten ++ es) :
    ∃ t, Host.Core.run Sys2Proof.core (4 * out.length) s = .next t ∧ Sent out es s t ∧
      t.procs[k]? = some { seq := none, last := some j.outcome } := by
  induction out generalizing j s with
  | nil => simp [TxJob.pending] at pending
  | cons b out ih =>
    rw [List.length_cons, List.replicate_succ, List.flatten_cons, List.append_assoc] at next
    obtain ⟨t, run4, sent, goesOn, ends⟩ := sending.byte next
    rw [List.length_cons, Nat.mul_succ, Nat.add_comm, run_add (M := core) run4]
    cases following : j.next with
    | none =>
      obtain ⟨one, returned⟩ := TxJob.last following
      obtain ⟨rfl, rfl⟩ := List.cons.inj (pending.symm.trans one)
      exact ⟨t, rfl, sent, returned ▸ ends following⟩
    | some j' =>
      obtain ⟨-, first, outcome⟩ := TxJob.goesOn following
      obtain ⟨rfl, rfl⟩ := List.cons.inj (pending.symm.trans first)
      obtain ⟨u, runRest, rest, ended⟩ := ih (goesOn j' following) rfl sent.schedule
      refine ⟨u, runRest, ?_, outcome ▸ ended⟩
      exact {
        cfg := rest.cfg.trans sent.cfg
        txLine := by rw [rest.txLine, sent.txLine, List.append_assoc]; rfl
        txCounter := by
          rw [rest.txCounter, sent.txCounter, sent.cfg, Nat.mod_add_mod]
          simp [Nat.add_assoc, Nat.add_comm]
        empty := rest.empty
        faults := rest.faults.trans sent.faults
        schedule := rest.schedule }

/-- The carriage returns make the string longer by one byte for each line feed. -/
theorem length_flatMap_withReturn (bs : List Byte) : (bs.flatMap withReturn).length = bs.length + bs.count lineFeed := by
  induction bs with
  | nil => rfl
  | cons b bs ih => by_cases feed : b = lineFeed <;> simp [withReturn, feed, ih] <;> omega

section
variable {s : State} {k : Nat} {r : Request} {p : Proc} {es : List Event}

/-- The step that starts an operation. -/
theorem step_start (valid : s.cfg.valid = true) (may : s.processMayStep = true) (next : s.schedule = .start k r :: es) :
    step s = .next (start k r { s with schedule := es }) :=
  (step_cons valid next).trans (if_pos may)

/-- An operation with a first step begins there, on an idle context (R7; log 20). -/
theorem step_start_of_inl {q : OpSeq} (valid : s.cfg.valid = true) (may : s.processMayStep = true)
    (context : s.procs[k]? = some p) (idle : p.seq = none) (begins : r.begins = .inl q)
    (next : s.schedule = .start k r :: es) : step s = .next (State.setSeq { s with schedule := es } k q) := by
  obtain ⟨seq, last⟩ := p
  obtain rfl : seq = none := idle
  rw [step_start valid may next]
  simp only [start, context, begins]

/-- An operation without a step ends as it starts (R132, R159; log 20). -/
theorem step_start_of_inr {v : Result} (valid : s.cfg.valid = true) (may : s.processMayStep = true)
    (context : s.procs[k]? = some p) (idle : p.seq = none) (begins : r.begins = .inr v)
    (next : s.schedule = .start k r :: es) : step s = .next (State.endOp { s with schedule := es } k v) := by
  obtain ⟨seq, last⟩ := p
  obtain rfl : seq = none := idle
  rw [step_start valid may next]
  simp only [start, context, begins]

end

/-- Settles O39: the writer sends its pending bytes one by one; a string of no bytes ends as it starts. -/
theorem writeStrSendsLineFeedCarriageReturn : Obligations.WriteStrSendsLineFeedCarriageReturn := by
  intro s k bs es out inv valid mask mapped normal closed empty may context next
  obtain ⟨p, context, idle⟩ := context
  have present : k < s.procs.length := (List.getElem?_eq_some_iff.1 context).1
  have length : out.length = bs.length + bs.count lineFeed := length_flatMap_withReturn bs
  refine ⟨length, ?_⟩
  cases bs with
  | nil =>
    have ended := step_start_of_inr valid may context idle rfl next
    exact ⟨_, (run_succ ended).trans run_zero, by
      simp [out, empty, State.endOp, present, Nat.mod_eq_of_lt inv.counterBound]⟩
  | cons b rest =>
    obtain ⟨pending, outcome⟩ := writeStrJob_pending b rest
    have started := step_start_of_inl valid may context idle rfl next
    have sending : Sending k (writeStrJob b rest) (State.setSeq
        { s with schedule := (List.replicate out.length (byteSteps k)).flatten ++ es } k (.tx (writeStrJob b rest))) :=
      { ready := ⟨valid, mask, mapped, closed, may, inv.registerLockFree⟩
        normal := normal
        empty := empty
        position := by simp [Writing, State.seqOf_setSeq, present]
        atPoll := rfl }
    obtain ⟨t, runs, sent, ended⟩ := sending.all pending rfl
    refine ⟨t, ?_, sent.txLine, ?_, outcome ▸ ended, sent.empty, sent.faults, sent.schedule⟩
    · rw [Nat.add_comm, run_succ started]
      exact runs
    · refine sent.txCounter.trans ?_
      rw [length_flatMap_withReturn, ← Nat.add_assoc]
      rfl

/-- Settles O42: were the byte held for ever, `DRAIN` would stay enabled, and the choice of the transmitter that fairness gives
would take it. -/
theorem fairTransmitterEmptiesTheHolding : Obligations.FairTransmitterEmptiesTheHolding := by
  intro choice run isRun fair assumed normal n held
  by_contra never
  have stays : ∀ m, n ≤ m → (run m).txHold ≠ none := by
    intro m le
    rcases le.eq_or_lt with rfl | lt
    · exact held
    · exact fun empty => never ⟨m, lt, empty⟩
  obtain ⟨m, le, drains⟩ := fair assumed n ((State.drainEnabled_iff _).2 ⟨normal n, held⟩)
  obtain ⟨b, heldThen⟩ := Option.ne_none_iff_exists'.1 (stays m le)
  have moved := isRun.moves m
  rw [drains, take, drain_of_held heldThen (normal m)] at moved
  exact stays (m + 1) (Nat.le_succ_of_le le) (congrArg State.txHold (Host.Outcome.next.inj moved)).symm

/-! ### One writer -/

/-- A read word names a read (R81, R86). -/
theorem not_wrTxd_of_read {c : Config} {dle : Bool} {off : Nat} {d v : Word}
    (h : decodeBus c dle (busWord false off d) = .ok (.wrTxd v)) : False := by
  obtain ⟨r, -, access⟩ := decodeBus_eq_ok_iff.1 h
  simp [accessInstr_eq_some_iff, Instr.access] at access

/-- No read fills the holding or records an overrun (R100). -/
theorem read_hold {s u : State} {off : Nat} (h : regRead off s = .next u) :
    (u.txHold = s.txHold ∨ u.txHold = none) ∧ u.faults.has .txOverrun = s.faults.has .txOverrun := by
  rcases transact_eq_next h with ⟨-, rfl⟩ | ⟨-, i, decodes, access, completes⟩
  · exact ⟨.inl rfl, by simp⟩
  · have effect := exec_effect access completes
    have notWrite : ¬ ∃ v, i = .wrTxd v := fun ⟨v, isWrite⟩ => not_wrTxd_of_read (isWrite ▸ decodes)
    refine ⟨?_, effect.overrun.resolve_right fun h => notWrite h.1⟩
    rcases effect.hold with same | empty | isWrite
    · exact .inl same
    · exact .inr empty
    · exact absurd isWrite notWrite

/-- On an empty holding no transaction records an overrun (R103). -/
theorem overrun_of_empty {s u : State} {w : BusWord} (empty : s.txHold = none) (h : transact w s = .next u) :
    u.faults.has .txOverrun = s.faults.has .txOverrun := by
  rcases transact_eq_next h with ⟨-, rfl⟩ | ⟨-, i, -, access, completes⟩
  · simp
  · exact (exec_effect access completes).overrun.resolve_right fun h => h.2 empty

/-- A poll that saw transmit-ready left the holding empty (R27, R130). -/
theorem empty_of_polled {s u : State} {v : Word} (valid : s.cfg.valid = true) (mapped : s.mapped = true)
    (reads : transact (busWord false s.cfg.offLsr 0#32) s = .next u) (result : u.result = .word v)
    (seen : anyBit v u.cfg.lsrTxrdy = true) : u.txHold = none := by
  have isRead := (transact_busWord (r := .lsr) valid mapped rfl rfl).symm.trans reads
  rw [exec_rdLsr_eq_lineStatusRead] at isRead
  obtain rfl := Host.Outcome.next.inj isRead
  obtain rfl := Result.word.inj result
  have ready : s.txReady = true := ((Bool.and_eq_true _ _).mp (s.anyBit_lineStatusWord.symm.trans seen)).1
  exact Option.isNone_iff_eq_none.mp ready

/-- A state with the holding empty where it was, and with no writer at `SEND` that was not there. -/
theorem PolledHoldingEmpty.mono {s t : State} (polled : PolledHoldingEmpty s) (hold : s.txHold = none → t.txHold = none)
    (positions : ∀ k j, Writing t k j → j.label = .send → Writing s k j) : PolledHoldingEmpty t :=
  fun k j writing atSend => hold (polled k j (positions k j writing atSend) atSend)

/-- Moving on to another position brings nobody to `SEND`. -/
theorem writing_of_setSeq {s : State} {k m : Nat} {q : OpSeq} {j : TxJob} (notSend : ∀ j, q = .tx j → j.label ≠ .send)
    (h : Writing (s.setSeq k q) m j) (atSend : j.label = .send) : Writing s m j :=
  State.seqOf_of_setSeq h fun isWriter => notSend j isWriter atSend

/-- A new context is idle. -/
theorem seqOf_spawn (s : State) (k : Nat) : (spawn s).seqOf k = s.seqOf k := by
  simp only [State.seqOf, spawn]
  rcases Nat.lt_trichotomy k s.procs.length with lt | rfl | gt
  · rw [List.getElem?_append_left lt]
  · simp [Proc.idle]
  · rw [List.getElem?_eq_none (by simpa using gt), List.getElem?_eq_none (Nat.le_of_lt gt)]

/-- An operation starts before `SEND` (R130). -/
theorem Request.begins_not_send {r : Request} {q : OpSeq} (h : r.begins = .inl q) : ∀ j, q = .tx j → j.label ≠ .send := by
  unfold Request.begins at h
  split at h <;> cases h <;> rintro j ⟨⟩ <;> nofun

/-- In `Running` the platform has no step (R180). -/
theorem platformStep_of_running {s : State} (p : PlatformStep) (running : s.lifecycle = .running) : platformStep p s = s := by
  cases p <;> simp [platformStep, running]

/-- In `Running` the one step of `TEARDOWN` is `T1` (R190). -/
theorem eq_t1_of_running {s : State} {l : TeardownLabel} {f : Option BringUpError} (running : s.lifecycle = .running)
    (needs : s.lifecycle = l.needs f) : l = .t1 := by
  cases l <;> cases f <;> simp [running, TeardownLabel.needs] at needs ⊢

/-- With no raw line and no `INIT`, an access is a writer's (R251). -/
theorem NoRawAccess.writer {s : State} {k : Nat} {q : OpSeq} {w : BusWord} (noRaw : NoRawAccess s)
    (position : s.seqOf k = some q) (asks : q.asks s.cfg = some w) : ∃ j, q = .tx j := by
  obtain ⟨notBus, notInit⟩ := noRaw k q position
  cases q with
  | tx j => exact ⟨j, rfl⟩
  | bus t => exact absurd rfl (notBus t)
  | init l => exact absurd rfl (notInit l)
  | _ => cases asks

/-- An access of the one writer: a poll changes neither the holding nor the overruns, and brings it to `SEND` with the holding
empty; a `SEND` finds the holding empty, and brings it past `SEND`. -/
theorem oneWriter_access {s u t : State} {k : Nat} {j : TxJob} {w : BusWord} (valid : s.cfg.valid = true)
    (mapped : s.mapped = true) (single : SingleWriter s) (polled : PolledHoldingEmpty s) (position : Writing s k j)
    (asks : (OpSeq.tx j).asks s.cfg = some w) (hu : transact w (s.setRegisterLock (some (.process k))) = .next u)
    (after : After k (.tx j) (u.setRegisterLock none) t) :
    PolledHoldingEmpty t ∧ t.faults.has .txOverrun = s.faults.has .txOverrun := by
  have frame := after.frame
  have same : ∀ m, (u.setRegisterLock none).seqOf m = s.seqOf m := State.seqOf_congr (transact_frame hu).1.procs
  have others : ∀ m j', Writing t m j' → m = k := by
    intro m j' writing
    by_contra other
    exact other (single m k j' j ((same m).symm.trans ((after.seqOf_ne other).symm.trans writing)) position)
  cases label : j.label with
  | count => simp [OpSeq.asks, label] at asks
  | poll =>
    obtain rfl : busWord false s.cfg.offLsr 0#32 = w := by simpa [OpSeq.asks, label] using asks
    refine ⟨fun m j' writing atSend => ?_, by rw [frame.faults]; exact (read_hold hu).2⟩
    obtain rfl := others m j' writing
    rw [frame.txHold]
    cases after with
    | raised _ => simp [Writing, State.seqOf_endOp] at writing
    | pollAgain _ =>
      have unmoved := Option.some.inj (((same m).symm.trans writing).symm.trans position)
      rw [OpSeq.tx.inj unmoved, label] at atSend
      cases atSend
    | polled _ result seen =>
      exact empty_of_polled (s := s.setRegisterLock (some (.process m))) (u := u) valid mapped hu result seen
    | sent atSend' => simp [label] at atSend'
  | send =>
    have empty : s.txHold = none := polled k j position label
    have overrun := overrun_of_empty (s := s.setRegisterLock (some (.process k))) empty hu
    refine ⟨fun m j' writing atSend => ?_, by rw [frame.faults]; exact overrun⟩
    obtain rfl := others m j' writing
    cases after with
    | raised _ => simp [Writing, State.seqOf_endOp] at writing
    | pollAgain atPoll => simp [label] at atPoll
    | polled atPoll _ _ => simp [label] at atPoll
    | sent _ =>
      have moved := State.seqOf_setSeq_self (.tx { j with label := .count }) ((same m).trans position)
      obtain rfl := OpSeq.tx.inj (Option.some.inj (moved.symm.trans writing))
      cases atSend

/-- What the one writer's premises keep, move by move: of the agents only the writer itself can fill the holding or reach `SEND`. -/
theorem Move.oneWriter {e : Event} {s t : State} (m : Move e s t) (valid : s.cfg.valid = true) (running : s.lifecycle = .running)
    (single : SingleWriter s) (noRaw : NoRawAccess s) (polled : PolledHoldingEmpty s) :
    PolledHoldingEmpty t ∧ t.faults.has .txOverrun = s.faults.has .txOverrun := by
  have mapped : s.mapped = true := by rw [State.mapped, running]; rfl
  cases m with
  | still => exact ⟨polled, rfl⟩
  | spawned => exact ⟨polled.mono id fun k j h _ => (seqOf_spawn s k).symm.trans h, rfl⟩
  | begun _ begins => exact ⟨polled.mono id fun _ _ => writing_of_setSeq (Request.begins_not_send begins), rfl⟩
  | answered _ _ => exact ⟨polled.mono id fun _ _ h _ => State.seqOf_of_endOp h, rfl⟩
  | access position _ _ asks hu after =>
    obtain ⟨j, rfl⟩ := noRaw.writer position asks
    exact oneWriter_access valid mapped single polled position asks hu after
  | controlled _ hu =>
    rcases transactCtrl_cases hu with ⟨-, rfl⟩ | ⟨_, rfl⟩
    · exact ⟨polled.mono id fun _ _ h _ => State.seqOf_of_endOp h, rfl⟩
    · exact ⟨polled.mono id fun _ _ h _ => State.seqOf_of_endOp h, rfl⟩
  | @counted k j =>
    refine ⟨?_, by simp⟩
    unfold countStep
    split
    next j' following =>
      refine polled.mono id fun _ _ => writing_of_setSeq ?_
      rintro _ ⟨⟩
      simp [(TxJob.goesOn following).1]
    next => exact polled.mono id fun _ _ h _ => State.seqOf_of_endOp h
  | woken _ _ => exact ⟨polled.mono id fun _ _ => writing_of_setSeq nofun, rfl⟩
  | dequeued _ _ => exact ⟨polled.mono id fun _ _ h _ => State.seqOf_of_endOp h, rfl⟩
  | attached _ _ => exact ⟨polled.mono id fun _ _ => writing_of_setSeq nofun, rfl⟩
  | tornDown _ _ needs =>
    obtain rfl := eq_t1_of_running running needs
    exact ⟨polled.mono id fun _ _ => writing_of_setSeq nofun, rfl⟩
  | cancelled _ => exact ⟨polled.mono id fun _ _ h _ => State.seqOf_of_endOp h, rfl⟩
  | received _ hu ht =>
    obtain ⟨hold, overrun⟩ := read_hold hu
    have procs := (receive_frame hu ht).procs
    have empty (e : s.txHold = none) := hold.elim (·.trans e) id
    rcases recvDecide_cases ht with ⟨_, -, rfl⟩ | ⟨-, rfl⟩
    all_goals exact ⟨polled.mono empty fun k j h _ => (State.seqOf_congr procs k).symm.trans h, overrun⟩
  | platform p => rw [platformStep_of_running p running]; exact ⟨polled, rfl⟩
  | drained _ _ => exact ⟨fun _ _ _ _ => rfl, rfl⟩
  | overrun _ _ => exact ⟨polled, by simp⟩
  | _ => exact ⟨polled, rfl⟩

/-- Settles O40, from the moves of a step. -/
theorem oneWriterNeverOverruns : Obligations.OneWriterNeverOverruns := by
  intro s t hstep running single noRaw polled
  obtain ⟨valid, ⟨-, rfl⟩ | ⟨e, es, -, m⟩⟩ := step_eq_next hstep
  · exact ⟨polled, rfl⟩
  · exact m.oneWriter valid running single noRaw polled

end Sys2Proof.Machine
end

section
/-! Proofs of the family of spec/42_receive.md and spec/60_exceptions.md: the receive buffer read as a queue, the readers, the
interrupt entry and the handler. -/

namespace Sys2Proof.Machine

/-! ### The receive buffer as a queue (R40) -/

/-- The sizes of the buffer and of its cursors (R38, R39). -/
structure BufferBounds (s : State) : Prop where
  storageLength : s.storage.length = s.cfg.capacity
  readBound     : s.readCursor < s.cfg.capacity
  writeBound    : s.writeCursor < s.cfg.capacity

theorem StateInv.bufferBounds {s : State} (h : StateInv s) : BufferBounds s :=
  ⟨h.storageLength, h.readBound, h.writeBound⟩

/-- A number below twice C, reduced modulo C. -/
theorem mod_of_lt_two_mul {x c : Nat} (h : x < 2 * c) : x % c = if x < c then x else x - c := by
  split
  next lt => exact Nat.mod_eq_of_lt lt
  next ge =>
    rw [Nat.mod_eq_sub_mod (by omega), Nat.mod_eq_of_lt (by omega)]

namespace BufferBounds

variable {s : State}

theorem avail_eq (h : BufferBounds s) :
    s.avail = if s.readCursor ≤ s.writeCursor then s.writeCursor - s.readCursor
      else s.writeCursor + s.cfg.capacity - s.readCursor := by
  obtain ⟨-, hr, hw⟩ := h
  rw [State.avail, mod_of_lt_two_mul (by omega)]
  split <;> split <;> omega

/-- The write cursor lies `avail` bytes after the read cursor (R40). -/
theorem slot_avail (h : BufferBounds s) : (s.readCursor + s.avail) % s.cfg.capacity = s.writeCursor := by
  have eq := h.avail_eq
  obtain ⟨-, hr, hw⟩ := h
  rw [mod_of_lt_two_mul (by split at eq <;> omega)]
  split at eq <;> split <;> omega

/-- No readable byte lies at the write cursor. -/
theorem slot_ne_writeCursor (h : BufferBounds s) {i : Nat} (hi : i < s.avail) :
    (s.readCursor + i) % s.cfg.capacity ≠ s.writeCursor := by
  have eq := h.avail_eq
  obtain ⟨-, hr, hw⟩ := h
  rw [mod_of_lt_two_mul (by split at eq <;> omega)]
  split at eq <;> split <;> omega

theorem notEmpty_iff (h : BufferBounds s) : s.notEmpty = true ↔ 0 < s.avail := by
  have eq := h.avail_eq
  obtain ⟨-, hr, hw⟩ := h
  rw [State.notEmpty, bne_iff_ne]
  split at eq <;> omega

theorem enqueue (h : BufferBounds s) (b : Byte) : BufferBounds (s.enqueue b) :=
  ⟨by simpa using h.storageLength, h.readBound, Nat.mod_lt _ (Nat.zero_lt_of_lt h.readBound)⟩

theorem dequeue (h : BufferBounds s) : BufferBounds s.dequeue :=
  ⟨h.storageLength, Nat.mod_lt _ (Nat.zero_lt_of_lt h.readBound), h.writeBound⟩

/-- An enqueue adds a byte, and the one that would be the C-th makes the cursors equal (R154). -/
theorem avail_enqueue (h : BufferBounds s) (b : Byte) :
    (s.enqueue b).avail = if s.avail + 1 < s.cfg.capacity then s.avail + 1 else 0 := by
  have eq := h.avail_eq
  have eq' := (h.enqueue b).avail_eq
  obtain ⟨-, hr, hw⟩ := h
  simp only [State.enqueue_readCursor, State.enqueue_writeCursor, State.enqueue_cfg,
    mod_of_lt_two_mul (show s.writeCursor + 1 < 2 * s.cfg.capacity by omega)] at eq'
  split_ifs at eq eq' ⊢ <;> omega

/-- A dequeue from a buffer with a byte takes one (R157). -/
theorem avail_dequeue (h : BufferBounds s) (notEmpty : s.notEmpty = true) : s.avail = s.dequeue.avail + 1 := by
  have eq := h.avail_eq
  have eq' := h.dequeue.avail_eq
  have apart : s.readCursor ≠ s.writeCursor := by simpa [State.notEmpty] using notEmpty
  obtain ⟨-, hr, hw⟩ := h
  simp only [State.dequeue_readCursor, State.dequeue_writeCursor, State.dequeue_cfg,
    mod_of_lt_two_mul (show s.readCursor + 1 < 2 * s.cfg.capacity by omega)] at eq'
  split_ifs at eq eq' <;> omega

/-- The byte at a cursor inside the storage. -/
theorem storage_getElem? (h : BufferBounds s) (i : Nat) : ∃ b, s.storage[i % s.cfg.capacity]? = some b :=
  ⟨_, List.getElem?_eq_getElem (by rw [h.storageLength]; exact Nat.mod_lt _ (Nat.zero_lt_of_lt h.readBound))⟩

theorem frontByte_eq (h : BufferBounds s) : s.storage[s.readCursor]? = some s.frontByte := by
  have inside : s.readCursor < s.storage.length := h.storageLength ▸ h.readBound
  simp [State.frontByte, List.getElem?_eq_getElem inside]

end BufferBounds

theorem State.length_readable (s : State) : s.readable.length = s.avail := by simp [State.readable]

theorem State.readable_eq_nil_iff (s : State) : s.readable = [] ↔ s.avail = 0 := by
  rw [← List.length_eq_zero_iff, State.length_readable]

namespace BufferBounds

variable {s : State}

/-- With room, the enqueued byte is read last (R154). -/
theorem readable_enqueue (h : BufferBounds s) (b : Byte) (room : s.avail + 1 < s.cfg.capacity) :
    (s.enqueue b).readable = s.readable ++ [b] := by
  have old : ∀ i ∈ List.range s.avail, (s.storage.set s.writeCursor b)[(s.readCursor + i) % s.cfg.capacity]?.getD 0x00#8 =
      s.storage[(s.readCursor + i) % s.cfg.capacity]?.getD 0x00#8 := fun i hi => by
    rw [List.getElem?_set_ne (h.slot_ne_writeCursor (List.mem_range.1 hi)).symm]
  have new : (s.storage.set s.writeCursor b)[(s.readCursor + s.avail) % s.cfg.capacity]?.getD 0x00#8 = b := by
    rw [h.slot_avail, List.getElem?_set_self (h.storageLength ▸ h.writeBound)]
    rfl
  simp only [State.readable, h.avail_enqueue, if_pos room, State.enqueue_storage, State.enqueue_readCursor,
    State.enqueue_cfg, List.range_succ, List.map_append, List.map_cons, List.map_nil, new, List.map_congr_left old]

/-- The byte that would be the C-th makes the buffer read as empty (R154). -/
theorem readable_enqueue_full (h : BufferBounds s) (b : Byte) (full : s.avail + 1 = s.cfg.capacity) :
    (s.enqueue b).readable = [] ∧ (s.enqueue b).notEmpty = false := by
  have none : (s.enqueue b).avail = 0 := by rw [h.avail_enqueue, if_neg (by omega)]
  refine ⟨(State.readable_eq_nil_iff _).2 none, ?_⟩
  rw [Bool.eq_false_iff, ne_eq, (h.enqueue b).notEmpty_iff, none]
  decide

/-- The first readable byte is the one at the read cursor (R157). -/
theorem readable_dequeue (h : BufferBounds s) (notEmpty : s.notEmpty = true) :
    s.readable = s.frontByte :: s.dequeue.readable := by
  have front : s.storage[(s.readCursor + 0) % s.cfg.capacity]?.getD 0x00#8 = s.frontByte := by
    rw [Nat.add_zero, Nat.mod_eq_of_lt h.readBound, h.frontByte_eq]
    rfl
  have slots : ∀ i, (s.readCursor + (i + 1)) % s.cfg.capacity =
      ((s.readCursor + 1) % s.cfg.capacity + i) % s.cfg.capacity := fun i => by
    rw [Nat.mod_add_mod, Nat.add_assoc, Nat.add_comm i]
  rw [State.readable, State.readable, h.avail_dequeue notEmpty, List.range_succ_eq_map, List.map_cons, front, List.map_map]
  refine congrArg (s.frontByte :: ·) (List.map_congr_left fun i _ => ?_)
  rw [Function.comp_apply, Nat.succ_eq_add_one, slots]
  rfl

end BufferBounds

/-- Settles O48, from the readable bytes after an enqueue and after a dequeue. -/
theorem bufferIsAQueueThatWrapsToEmpty : Obligations.BufferIsAQueueThatWrapsToEmpty := by
  intro s b storageLength readBound writeBound
  have h : BufferBounds s := ⟨storageLength, readBound, writeBound⟩
  refine ⟨h.readable_enqueue b, h.readable_enqueue_full b, h.readable_dequeue, ?_⟩
  rw [State.readable_eq_nil_iff, Bool.eq_false_iff, ne_eq, h.notEmpty_iff, Nat.pos_iff_ne_zero, not_not]

/-! ### Successive enqueues (R155) -/

theorem pushAll_concat (s : State) (bs : List Byte) (b : Byte) : pushAll s (bs ++ [b]) = (pushAll s bs).enqueue b :=
  List.foldl_concat _ _ _ _

/-- What pushes from a buffer with no readable byte leave: the newest bytes readable, modulo C of them. -/
theorem pushAll_spec {s : State} (h : BufferBounds s) (empty : s.readCursor = s.writeCursor) (bs : List Byte) :
    BufferBounds (pushAll s bs) ∧ (pushAll s bs).cfg = s.cfg ∧ (pushAll s bs).faults = s.faults ∧
    (pushAll s bs).writeCursor = (s.writeCursor + bs.length) % s.cfg.capacity ∧
    (pushAll s bs).readable = bs.drop (bs.length - bs.length % s.cfg.capacity) := by
  induction bs using List.reverseRecOn with
  | nil =>
    refine ⟨h, rfl, rfl, (Nat.mod_eq_of_lt h.writeBound).symm, ?_⟩
    rw [List.drop_nil, State.readable_eq_nil_iff]
    simp [pushAll, State.avail, empty]
  | append_singleton bs b ih =>
    obtain ⟨bounds, cfg, faults, cursor, readable⟩ := ih
    have capacity : 0 < s.cfg.capacity := Nat.zero_lt_of_lt h.readBound
    have le : bs.length % s.cfg.capacity ≤ bs.length := Nat.mod_le _ _
    have avail : (pushAll s bs).avail = bs.length % s.cfg.capacity := by
      rw [← State.length_readable, readable, List.length_drop]
      omega
    rw [pushAll_concat, List.length_append, List.length_singleton]
    refine ⟨bounds.enqueue b, cfg, faults, ?_, ?_⟩
    · rw [State.enqueue_writeCursor, cursor, cfg, Nat.mod_add_mod, Nat.add_assoc]
    · have lt := Nat.mod_lt bs.length capacity
      rcases Nat.lt_or_ge (bs.length % s.cfg.capacity + 1) s.cfg.capacity with room | full
      · have count : (bs.length + 1) % s.cfg.capacity = bs.length % s.cfg.capacity + 1 := by
          rw [← Nat.mod_add_mod, Nat.mod_eq_of_lt room]
        rw [bounds.readable_enqueue b (by rw [avail, cfg]; exact room), readable, count, Nat.add_sub_add_right,
          List.drop_append_of_le_length (Nat.sub_le _ _)]
      · have last : bs.length % s.cfg.capacity + 1 = s.cfg.capacity := by omega
        have count : (bs.length + 1) % s.cfg.capacity = 0 := by rw [← Nat.mod_add_mod, last, Nat.mod_self]
        rw [(bounds.readable_enqueue_full b (by rw [avail, cfg]; exact last)).1, count, Nat.sub_zero,
          List.drop_eq_nil_of_le (by simp)]

/-- Settles O49, by induction on the pushes, the last one apart. -/
theorem overflowKeepsTheNewestBytes : Obligations.OverflowKeepsTheNewestBytes := by
  intro s bs storageLength writeBound empty
  obtain ⟨-, -, faults, cursor, readable⟩ := pushAll_spec ⟨storageLength, empty ▸ writeBound, writeBound⟩ empty bs
  exact ⟨readable, cursor, faults⟩

/-! ### `WAIT`, `DEQ` and `CANCEL` -/

/-- A dequeue under the free lock (R69, R157). -/
theorem deqStep_of_free {s : State} {k : Nat} {asRead : Bool} (free : s.bufferLock = none) :
    deqStep k asRead s = s.dequeue.endOp k (popped asRead s.frontByte) := by
  have released : (s.setBufferLock (some (.process k))).dequeue.setBufferLock none = s.dequeue := by
    rw [← free]; rfl
  rw [deqStep, withBufferLock_free free, released]

section
variable {s : State} {k : Nat} {asRead : Bool} {es : List Event}

/-- A reader at `WAIT` with the cursors equal has no step (R156). -/
theorem step_wait_of_equal (valid : s.cfg.valid = true) (may : s.processMayStep = true)
    (position : s.seqOf k = some (.popWait asRead)) (equal : s.readCursor = s.writeCursor) (next : s.schedule = .proc k :: es) :
    step s = .next { s with schedule := es } := by
  have stays : State.notEmpty { s with schedule := es } = false := by simp [State.notEmpty, equal]
  rw [step_proc valid next may position]
  simp only [seqStep, waitStep, stays, Bool.false_eq_true, if_false]

/-- A reader at `WAIT` with the cursors apart goes on to `DEQ` (R156). -/
theorem step_wait_of_notEmpty (valid : s.cfg.valid = true) (may : s.processMayStep = true)
    (position : s.seqOf k = some (.popWait asRead)) (notEmpty : s.notEmpty = true) (next : s.schedule = .proc k :: es) :
    step s = .next (State.setSeq { s with schedule := es } k (.popDeq asRead)) := by
  have woken : State.notEmpty { s with schedule := es } = true := notEmpty
  rw [step_proc valid next may position]
  simp only [seqStep, waitStep, woken, if_true]

/-- `DEQ` takes the byte at the read cursor, with no test (R157). -/
theorem step_deq (valid : s.cfg.valid = true) (may : s.processMayStep = true) (free : s.bufferLock = none)
    (position : s.seqOf k = some (.popDeq asRead)) (next : s.schedule = .proc k :: es) :
    step s = .next ((State.dequeue { s with schedule := es }).endOp k (popped asRead s.frontByte)) := by
  rw [step_proc valid next may position, seqStep, deqStep_of_free (s := { s with schedule := es }) free]
  rfl

end

/-- Settles O50: with the cursors equal neither step moves, and else the second one takes the byte. -/
theorem popWaitsThenTakesTheFrontByte : Obligations.PopWaitsThenTakesTheFrontByte := by
  intro s k asRead es inv valid may position next
  refine ⟨fun equal => ?_, fun apart => ?_⟩
  · exact run_two (step_wait_of_equal valid may position equal next)
      (step_wait_of_equal (s := { s with schedule := .proc k :: es }) valid may position equal rfl)
  · have woken := step_wait_of_notEmpty valid may position (by simpa [State.notEmpty] using apart) next
    have taken := step_deq (s := State.setSeq { s with schedule := .proc k :: es } k (.popDeq asRead)) valid may inv.bufferLockFree
      (State.seqOf_setSeq_self _ position) rfl
    refine ⟨s.frontByte, inv.bufferBounds.frontByte_eq, (run_two woken taken).trans (congrArg _ ?_)⟩
    exact (State.endOp_setSeq (State.dequeue { s with schedule := es }) k _ _).trans (State.endOp_eq_set _ _ _)

/-- Settles O51: the signal ends an operation at `WAIT`, and does nothing elsewhere. -/
theorem cancelConsumesNoByte : Obligations.CancelConsumesNoByte := by
  intro s k es valid next
  rw [step_cons valid next]
  refine ⟨fun asRead position => ?_, fun elsewhere => ?_⟩
  · have position' : State.seqOf { s with schedule := es } k = some (.popWait asRead) := position
    simp only [take, cancel, position', State.endOp_eq_set]
  · simp only [take, cancel]
    split
    next asRead position => exact absurd position (elsewhere asRead)
    next => rfl

/-- Settles O52: neither of the first two operations has a step, and the third one starts at `WAIT`. -/
theorem emptyOperationsEndAtOnce : Obligations.EmptyOperationsEndAtOnce := by
  intro s k n es p valid may context idle
  refine ⟨fun next => ?_, fun next => ?_, fun next => ?_⟩
  · exact (step_start_of_inr valid may context idle rfl next).trans (congrArg _ (State.endOp_eq_set _ _ _))
  · exact (step_start_of_inr valid may context idle rfl next).trans (congrArg _ (State.endOp_eq_set _ _ _))
  · exact (step_start_of_inl valid may context idle rfl next).trans (congrArg _ (State.setSeq_eq_set _ context))

/-- What a step of reader `k` leaves alone. -/
structure ReaderStep (k : Nat) (es : List Event) (s t : State) : Prop where
  cfg         : t.cfg = s.cfg
  may         : t.processMayStep = s.processMayStep
  storage     : t.storage = s.storage
  writeCursor : t.writeCursor = s.writeCursor
  bufferLock  : t.bufferLock = s.bufferLock
  faults      : t.faults = s.faults
  schedule    : t.schedule = es
  others      : ∀ m, k ≠ m → t.procs[m]? = s.procs[m]?

theorem ReaderStep.seqOf {k m : Nat} {es : List Event} {s t : State} (h : ReaderStep k es s t) (other : k ≠ m) :
    t.seqOf m = s.seqOf m := by
  rw [State.seqOf, State.seqOf, h.others m other]

section
variable {s : State} {k : Nat} {asRead : Bool} {es : List Event}

/-- A reader passes `WAIT`. -/
theorem reader_wakes (valid : s.cfg.valid = true) (may : s.processMayStep = true)
    (position : s.seqOf k = some (.popWait asRead)) (notEmpty : s.notEmpty = true) (next : s.schedule = .proc k :: es) :
    ∃ t, step s = .next t ∧ ReaderStep k es s t ∧ t.readCursor = s.readCursor ∧ t.seqOf k = some (.popDeq asRead) :=
  ⟨_, step_wait_of_notEmpty valid may position notEmpty next,
    ⟨rfl, rfl, rfl, rfl, rfl, rfl, rfl, fun _ other => by simp [State.setSeq, other]⟩, rfl, State.seqOf_setSeq_self _ position⟩

/-- A reader takes the byte at the read cursor, whatever it is (R157). -/
theorem reader_takes {b : Byte} (valid : s.cfg.valid = true) (may : s.processMayStep = true) (free : s.bufferLock = none)
    (position : s.seqOf k = some (.popDeq asRead)) (front : s.storage[s.readCursor]? = some b)
    (next : s.schedule = .proc k :: es) :
    ∃ t, step s = .next t ∧ ReaderStep k es s t ∧ t.readCursor = (s.readCursor + 1) % s.cfg.capacity ∧
      t.procs[k]? = some { seq := none, last := some (popped asRead b) } := by
  have byte : s.frontByte = b := by simp [State.frontByte, front]
  exact ⟨_, step_deq valid may free position next,
    ⟨rfl, rfl, rfl, rfl, rfl, rfl, rfl, fun _ other => by simp [State.endOp, other]⟩, rfl, by
      simp [State.endOp, State.lt_of_seqOf position, byte]⟩

end

/-- Settles O53: the first reader takes the one byte, the second the stale one behind it, and the read cursor ends one past the write
cursor. -/
theorem twoReadersRace : Obligations.TwoReadersRace := by
  intro s a b es apart inv valid may one waitA waitB next
  have bounds := inv.bufferBounds
  have notEmpty : s.notEmpty = true := bounds.notEmpty_iff.2 (by omega)
  obtain ⟨y, stale⟩ := bounds.storage_getElem? (s.readCursor + 1)
  obtain ⟨s1, step1, r1, read1, deqA⟩ := reader_wakes valid may waitA notEmpty next
  have valid1 : s1.cfg.valid = true := r1.cfg ▸ valid
  have notEmpty1 : s1.notEmpty = true := by rw [State.notEmpty, read1, r1.writeCursor]; exact notEmpty
  obtain ⟨s2, step2, r2, read2, deqB⟩ :=
    reader_wakes valid1 (r1.may.trans may) ((r1.seqOf apart).trans waitB) notEmpty1 r1.schedule
  have cfg2 : s2.cfg = s.cfg := r2.cfg.trans r1.cfg
  have may2 : s2.processMayStep = true := by rw [r2.may, r1.may, may]
  have free2 : s2.bufferLock = none := by rw [r2.bufferLock, r1.bufferLock, inv.bufferLockFree]
  have storage2 : s2.storage = s.storage := r2.storage.trans r1.storage
  have cursor2 : s2.readCursor = s.readCursor := read2.trans read1
  obtain ⟨s3, step3, r3, read3, doneA⟩ := reader_takes (cfg2 ▸ valid) may2 free2 ((r2.seqOf apart.symm).trans deqA)
    (by rw [storage2, cursor2]; exact bounds.frontByte_eq) r2.schedule
  have cursor3 : s3.readCursor = (s.readCursor + 1) % s.cfg.capacity := by rw [read3, cursor2, cfg2]
  have cfg3 : s3.cfg = s.cfg := r3.cfg.trans cfg2
  obtain ⟨s4, step4, r4, read4, doneB⟩ := reader_takes (cfg3 ▸ valid) (r3.may.trans may2) (r3.bufferLock.trans free2)
    ((r3.seqOf apart).trans deqB) (by rw [r3.storage, storage2, cursor3]; exact stale) r3.schedule
  refine ⟨s.frontByte, y, s4, bounds.frontByte_eq, stale, run_four step1 step2 step3 step4,
    (r4.others a apart.symm).trans doneA, doneB, ?_, by rw [r4.faults, r3.faults, r2.faults, r1.faults]⟩
  have write : (s.readCursor + 1) % s.cfg.capacity = s.writeCursor := one ▸ bounds.slot_avail
  have lt := bounds.writeBound
  rw [State.avail, read4, r4.cfg, cfg3, cursor3, write, r4.writeCursor, r3.writeCursor, r2.writeCursor, r1.writeCursor,
    mod_of_lt_two_mul (show s.writeCursor + 1 < 2 * s.cfg.capacity by omega)]
  split
  · rw [mod_of_lt_two_mul (by omega)]
    split <;> omega
  · rw [mod_of_lt_two_mul (by omega)]
    split <;> omega

/-! ### One reader -/

/-- The same cursors, and no reader past `WAIT` that was not there. -/
theorem WokenReaderHasByte.mono {s t : State} (woken : WokenReaderHasByte s) (readCursor : t.readCursor = s.readCursor)
    (writeCursor : t.writeCursor = s.writeCursor)
    (positions : ∀ k asRead, t.seqOf k = some (.popDeq asRead) → s.seqOf k = some (.popDeq asRead)) :
    WokenReaderHasByte t := by
  intro k asRead position
  have same : t.notEmpty = s.notEmpty := by rw [State.notEmpty, State.notEmpty, readCursor, writeCursor]
  exact same.trans (woken k asRead (positions k asRead position))

/-- No access leads to `DEQ` (R130, R182). -/
theorem After.seqOf_popDeq {k m : Nat} {q : OpSeq} {u t : State} {asRead : Bool} (h : After k q u t)
    (position : t.seqOf m = some (.popDeq asRead)) : u.seqOf m = some (.popDeq asRead) := by
  cases h with
  | raised _ => exact State.seqOf_of_endOp position
  | busEnd => exact State.seqOf_of_endOp position
  | pollAgain _ => exact position
  | polled _ _ _ => exact State.seqOf_of_setSeq position nofun
  | sent _ => exact State.seqOf_of_setSeq position nofun
  | nextInit => exact State.seqOf_of_setSeq position nofun
  | configured _ => exact State.seqOf_of_setSeq (s := u.setLifecycle .hardwareConfigured) position nofun
  | enabled _ => exact State.seqOf_of_endOp (s := u.setLifecycle .interruptsEnabled) position

/-- No operation starts at `DEQ` (R156). -/
theorem Request.begins_ne_popDeq {r : Request} {q : OpSeq} (h : r.begins = .inl q) (asRead : Bool) : q ≠ .popDeq asRead := by
  unfold Request.begins at h
  split at h <;> cases h <;> nofun

/-- What the one reader's premises keep, move by move: only the reader itself takes a byte, and only an enqueue could make the buffer
read as empty. -/
theorem Move.oneReader {e : Event} {s t : State} (m : Move e s t) (inv : StateInv s) (single : SingleReader s)
    (woken : WokenReaderHasByte s) (running : s.lifecycle = .running)
    (room : ∀ b, e = .handler → s.handler = some (.enq b) → s.avail + 1 < s.cfg.capacity) : WokenReaderHasByte t := by
  cases m with
  | spawned => exact woken.mono rfl rfl fun k _ h => (seqOf_spawn s k).symm.trans h
  | begun _ begins => exact woken.mono rfl rfl fun _ asRead h => State.seqOf_of_setSeq h (Request.begins_ne_popDeq begins asRead)
  | answered _ _ => exact woken.mono rfl rfl fun _ _ => State.seqOf_of_endOp
  | access _ _ _ _ hu after =>
    have frame := access_frame hu after
    exact woken.mono frame.readCursor frame.writeCursor fun k _ h =>
      (State.seqOf_congr (transact_frame hu).1.procs k).symm.trans (after.seqOf_popDeq h)
  | controlled _ hu =>
    rcases transactCtrl_cases hu with ⟨-, rfl⟩ | ⟨_, rfl⟩
    · exact woken.mono rfl rfl fun _ _ => State.seqOf_of_endOp
    · exact woken.mono rfl rfl fun _ _ => State.seqOf_of_endOp
  | counted _ _ =>
    refine woken.mono (by simp) (by simp) fun _ _ h => ?_
    unfold countStep at h
    split at h
    · exact State.seqOf_of_setSeq h nofun
    · exact State.seqOf_of_endOp h
  | woken _ notEmpty => exact fun _ _ _ => notEmpty
  | @dequeued k asRead _ position _ =>
    intro k' asRead' position'
    have before := State.seqOf_of_endOp position'
    have same : k' = k := single k' k _ _ before position ⟨asRead', .inr rfl⟩ ⟨asRead, .inr rfl⟩
    simp [State.seqOf_endOp, same] at position'
  | attached _ _ => exact woken.mono rfl rfl fun _ _ h => State.seqOf_of_setSeq h nofun
  | tornDown _ _ needs =>
    obtain rfl := eq_t1_of_running running needs
    exact woken.mono rfl rfl fun _ _ h => State.seqOf_of_setSeq h nofun
  | cancelled _ => exact woken.mono rfl rfl fun _ _ => State.seqOf_of_endOp
  | received _ hu ht =>
    have frame := receive_frame hu ht
    exact woken.mono frame.readCursor frame.writeCursor fun k _ h => (State.seqOf_congr frame.procs k).symm.trans h
  | @enqueued b _ enq _ =>
    intro _ _ _
    have more := inv.bufferBounds.avail_enqueue b
    rw [if_pos (room b rfl enq)] at more
    exact (inv.bufferBounds.enqueue b).notEmpty_iff.2 (by omega)
  | platform p => rw [platformStep_of_running p running]; exact woken
  | _ => exact woken.mono rfl rfl fun _ _ => id

/-- Settles O54, from the moves of a step. -/
theorem oneReaderAlwaysHasItsByte : Obligations.OneReaderAlwaysHasItsByte := by
  intro s t hstep inv single woken running room
  obtain ⟨-, ⟨-, rfl⟩ | ⟨e, es, first, m⟩⟩ := step_eq_next hstep
  · exact woken
  · simp only [first, List.head?_cons, Option.some.injEq] at room
    exact m.oneReader (inv.withSchedule es) single woken running room

/-! ### The interrupt entry and the handler -/

/-- The three masks of the entry (R208, R210). -/
theorem State.entryEnabled_iff (s : State) :
    s.entryEnabled = true ↔
      s.rxFifo ≠ [] ∧ (s.ier &&& s.cfg.ierRdi) ≠ 0x00#8 ∧ s.handlerAttached = true ∧ s.inHandler = false := by
  simp only [State.entryEnabled, Bool.and_eq_true, State.irq_iff, Bool.not_eq_true', and_assoc]

/-- Settles O45: the entry is taken exactly where it is enabled. -/
theorem interruptEntryIsMaskedThreeWays : Obligations.InterruptEntryIsMaskedThreeWays := by
  intro s es valid next
  rw [step_cons valid next]
  refine ⟨fun requested => ?_, fun masked => ?_⟩
  · exact congrArg _ (if_pos ((State.entryEnabled_iff { s with schedule := es }).2 requested))
  · refine congrArg _ (if_neg fun enabled => ?_)
    obtain ⟨held, rdi, attached, idle⟩ := (State.entryEnabled_iff { s with schedule := es }).1 enabled
    rcases masked with none | off | detached | inside
    · exact held none
    · exact rdi off
    · exact absurd (detached.symm.trans attached) (by decide)
    · exact absurd (idle.symm.trans inside) (by decide)

/-- Settles O47: on one core a running handler holds every process context still. -/
theorem noProcessStepInsideTheHandlerOnOneCore : Obligations.NoProcessStepInsideTheHandlerOnOneCore := by
  intro s k r es valid oneCore inside next
  have still : ¬ State.processMayStep { s with schedule := es } = true := by simp [State.processMayStep, inside, oneCore]
  rcases next with next | next <;> rw [step_cons valid next]
  · exact if_neg still
  · exact if_neg still

theorem handlerStep_of_recv {s : State} (atRecv : s.handler = some .recv) : handlerStep s = recvStep s := by
  simp only [handlerStep, atRecv]

theorem handlerStep_of_enq {s : State} {b : Byte} (atEnq : s.handler = some (.enq b)) :
    handlerStep s = .next (enqStep b s) := by
  simp only [handlerStep, atEnq]

/-- `RECV` with a byte held and the latches closed takes the oldest one (R104, R153). -/
theorem recvStep_of_held {s : State} {b : Byte} {rest : List Byte} (valid : s.cfg.valid = true) (mapped : s.mapped = true)
    (closed : s.dle = false) (held : s.rxFifo = b :: rest) :
    recvStep s = .next (({ s.returnsRead b with rxFifo := rest } : State).setHandler (.enq b)) := by
  have reads : regRead s.cfg.offRxd s = .next { s.returnsRead b with rxFifo := rest } :=
    (transact_busWord (r := .rxd) valid mapped (by simp [Config.reachable, Config.hiddenByLatch, closed]) rfl).trans
      (exec_rdRxd_of_cons held)
  simp only [recvStep, reads, andThen_next, recvDecide, State.returnsRead_result, lowByte_readResult]

/-- `ENQ` under the free lock (R69, R153). -/
theorem enqStep_of_free {s : State} (b : Byte) (free : s.bufferLock = none) :
    enqStep b s = (s.enqueue b).setHandler .notify := by
  have released : ((s.setBufferLock (some .handler)).enqueue b).setBufferLock none = s.enqueue b := by
    rw [← free]; rfl
  rw [enqStep, withBufferLock_free free, released]

section
variable {s : State} {b : Byte} {es : List Event}

/-- The step that offers the handler a move. -/
theorem step_handler (valid : s.cfg.valid = true) (next : s.schedule = .handler :: es) :
    step s = handlerStep { s with schedule := es } :=
  step_cons valid next

/-- `RECV` (R153). -/
theorem step_recv {rest : List Byte} (valid : s.cfg.valid = true) (mapped : s.mapped = true) (closed : s.dle = false)
    (held : s.rxFifo = b :: rest) (atRecv : s.handler = some .recv) (next : s.schedule = .handler :: es) :
    step s = .next { s with
      rxFifo := rest
      handler := some (.enq b)
      result := .word (readResult (Config.freeUpper s.draws) b)
      draws := s.draws + 1
      schedule := es } := by
  rw [step_handler valid next, handlerStep_of_recv (s := { s with schedule := es }) atRecv]
  exact recvStep_of_held (s := { s with schedule := es }) valid mapped closed held

/-- `ENQ` (R153, R154). -/
theorem step_enq (valid : s.cfg.valid = true) (free : s.bufferLock = none) (atEnq : s.handler = some (.enq b))
    (next : s.schedule = .handler :: es) :
    step s = .next { s with
      storage := s.storage.set s.writeCursor b
      writeCursor := (s.writeCursor + 1) % s.cfg.capacity
      handler := some .notify
      schedule := es } := by
  rw [step_handler valid next, handlerStep_of_enq (s := { s with schedule := es }) atEnq]
  exact congrArg _ (enqStep_of_free (s := { s with schedule := es }) b free)

/-- `NOTIFY` (R30, R153). -/
theorem step_notify (valid : s.cfg.valid = true) (atNotify : s.handler = some .notify) (next : s.schedule = .handler :: es) :
    step s = .next { s with handler := some .ret, schedule := es } := by
  rw [step_handler valid next]
  simp only [handlerStep, atNotify, State.setHandler]

/-- `RET` (R213). -/
theorem step_ret (valid : s.cfg.valid = true) (atRet : s.handler = some .ret) (next : s.schedule = .handler :: es) :
    step s = .next { s with inHandler := false, handler := none, schedule := es } := by
  rw [step_handler valid next]
  simp only [handlerStep, atRet, State.interruptReturn]

end

/-- Settles O46: `RECV` takes the byte, `ENQ` stores it, `NOTIFY` and `RET` move only the handler; then the handler is idle and the
entry's other three conditions are left. -/
theorem handlerMovesOneByteToTheBuffer : Obligations.HandlerMovesOneByteToTheBuffer := by
  intro s b rest es valid mapped closed free atRecv held next
  refine ⟨_, _, _, run_four (step_recv valid mapped closed held atRecv next) (step_enq valid free rfl rfl)
    (step_notify valid rfl rfl) (step_ret valid rfl rfl), rfl, ?_⟩
  rw [State.entryEnabled_iff]
  simp

end Sys2Proof.Machine
end

section
/-! Proofs of the family of spec/43_init.md: the divisor, `INIT`, `TEARDOWN` and the unwinding of a failed bring-up. -/

namespace Sys2Proof.Machine

/-! ### The divisor (R183, R184) -/

/-- Settles O55: two truncating divisions are one by the product, and a divisor of 16 bits is its two bytes. -/
theorem divisorFormula : Obligations.DivisorFormula := by
  refine ⟨fun c baud => ?_, fun d le => ?_, by decide⟩
  · have one : c.divisor = c.clockHz.toNat / 1843200 := by rw [Config.divisor, baud, Nat.div_div_eq_div_mul]
    have bits := c.clockHz.isLt
    exact ⟨one, by rw [one]; omega⟩
  · simp only [divisorHigh, divisorLow, BitVec.toNat_ofNat]
    omega

/-! ### Operations in progress -/

/-- A context record is the one a position names. -/
theorem State.seqOf_eq_some_iff {s : State} {k : Nat} {q : OpSeq} :
    s.seqOf k = some q ↔ ∃ p, s.procs[k]? = some p ∧ p.seq = some q := by
  rw [State.seqOf, Option.bind_eq_some_iff]

/-- An `INIT` is under way where a context is past its first step (R191). -/
theorem State.initUnderWay_iff (s : State) :
    s.initUnderWay = true ↔ ∃ m l, s.seqOf m = some (.init l) ∧ l ≠ .i1 := by
  have inside (q : OpSeq) : q.configuring = true ↔ ∃ l, q = .init l ∧ l ≠ .i1 := by
    cases q <;> simp [OpSeq.configuring]
  simp only [State.initUnderWay, List.any_eq_true, List.mem_iff_getElem?, Proc.configuring, Option.any_eq_true, inside,
    State.seqOf_eq_some_iff]
  constructor
  · rintro ⟨p, ⟨m, context⟩, _, position, l, rfl, other⟩
    exact ⟨m, l, ⟨p, context, position⟩, other⟩
  · rintro ⟨m, l, ⟨p, context, position⟩, other⟩
    exact ⟨p, ⟨m, context⟩, _, position, l, rfl, other⟩

/-- Another operation is in progress where another context has a position (R190). -/
theorem State.othersBusy_iff (s : State) (k : Nat) :
    s.othersBusy k = true ↔ ∃ m q, m ≠ k ∧ s.seqOf m = some q := by
  simp only [State.othersBusy, List.any_eq_true, Bool.and_eq_true, bne_iff_ne, Option.isSome_iff_exists,
    State.seqOf_eq_some_iff]
  constructor
  · rintro ⟨⟨p, m⟩, mem, ⟨q, position⟩, other⟩
    exact ⟨m, q, other, p, List.mem_zipIdx_iff_getElem?.1 mem, position⟩
  · rintro ⟨m, q, other, p, context, position⟩
    exact ⟨(p, m), List.mem_zipIdx_iff_getElem?.2 context, ⟨q, position⟩, other⟩

/-- Where no operation is in progress no context has a position. -/
theorem State.seqOf_of_quiescent {s : State} (h : s.quiescent = true) (k : Nat) : s.seqOf k = none := by
  rw [State.seqOf]
  cases context : s.procs[k]? with
  | none => rfl
  | some p =>
    have idle := List.all_eq_true.1 h p (List.mem_of_getElem? context)
    simpa using idle

/-! ### `INIT` in the wrong state (R180, R191) -/

/-- A first step while another `INIT` is under way is refused (R191; log 32). -/
theorem initStep_of_underWay {k : Nat} {s : State} (underWay : s.initUnderWay = true) :
    initStep k .i1 s = .refused .badLifecycle := by
  unfold initStep
  split
  · rfl
  · exact if_pos ⟨rfl, underWay⟩

/-- Settles O57: the two tests that an `INIT` step makes before its action. -/
theorem initInTheWrongStateIsRefused : Obligations.InitInTheWrongStateIsRefused := by
  intro s k l es valid may position next
  rw [step_proc valid next may position]
  refine ⟨fun early wrong => ?_, fun late wrong => ?_, ?_⟩
  · have needs : l.needs = .registersMapped := by cases l <;> simp at early <;> rfl
    exact initStep_of_wrong_state (needs ▸ wrong)
  · have needs : l.needs = .hardwareConfigured := by cases l <;> simp at late <;> rfl
    exact initStep_of_wrong_state (needs ▸ wrong)
  · rintro rfl another
    exact initStep_of_underWay ((State.initUnderWay_iff s).2 another)

/-! ### `TEARDOWN` (R190) -/

/-- A step of `TEARDOWN` that nothing stops (R190). -/
theorem teardownStep_of_ok {s : State} {k : Nat} {l : TeardownLabel} {f : Option BringUpError}
    (quiet : l = .t1 → s.inHandler = false ∧ s.othersBusy k = false) (needs : s.lifecycle = l.needs f) :
    teardownStep k l f s = .next (teardownAction k l f s) := by
  have noHandler : ¬ (l = .t1 ∧ s.inHandler = true) := fun h => by simp [(quiet h.1).1] at h
  have noOther : ¬ (l = .t1 ∧ s.othersBusy k = true) := fun h => by simp [(quiet h.1).2] at h
  rw [teardownStep, if_neg noHandler, if_neg (not_not.2 needs), if_neg noOther]

/-- Settles O59: the three tests that `T1` makes, in the order of log 17. -/
theorem teardownNeedsQuiescence : Obligations.TeardownNeedsQuiescence := by
  intro s k es valid may position next
  rw [step_proc valid next may position]
  simp only [seqStep, teardownStep, true_and]
  refine ⟨fun running => if_pos running, fun idle wrong => ?_, fun idle another => ?_⟩
  · exact (if_neg (by simp [idle])).trans (if_pos wrong)
  · have busy : State.othersBusy { s with schedule := es } k = true := (State.othersBusy_iff _ k).2 another
    rw [if_neg (by simp [idle]), if_pos busy]
    exact ite_self _

/-- Where nothing runs, a context may start an operation, and no other context has a position. -/
theorem idle_context {s : State} {k : Nat} {p : Proc} (idle : s.inHandler = false) (quiescent : s.quiescent = true)
    (context : s.procs[k]? = some p) :
    p.seq = none ∧ s.processMayStep = true ∧ k < s.procs.length ∧ ∀ m, m ≠ k → s.seqOf m = none := by
  refine ⟨?_, ?_, (List.getElem?_eq_some_iff.1 context).1, fun m _ => State.seqOf_of_quiescent quiescent m⟩
  · simpa [State.seqOf, context] using State.seqOf_of_quiescent quiescent k
  · simp [State.processMayStep, idle]

/-- The position a step of `TEARDOWN` leaves does not depend on the one before. -/
theorem teardownAction_setSeq (k : Nat) (l : TeardownLabel) (f : Option BringUpError) (s : State) (q : OpSeq) :
    teardownAction k l f (s.setSeq k q) = teardownAction k l f s := by
  cases l with
  | t4 => exact State.endOp_setSeq (s.setLifecycle .uninitialized) k q _
  | t3 => exact State.setSeq_setSeq (s.scrambleUart.setLifecycle .registersUnmapped) k q _
  | t2 => exact State.setSeq_setSeq (s.setLifecycle .unregistered) k q _
  | t1 => exact State.setSeq_setSeq { s with handlerAttached := false, lifecycle := .interruptsDisabled } k q _

/-- The step of the context that tears down, with no other operation in progress and no handler running. -/
theorem step_teardown {s : State} {k : Nat} {l : TeardownLabel} {f : Option BringUpError} {es : List Event}
    (valid : s.cfg.valid = true) (idle : s.inHandler = false) (present : k < s.procs.length)
    (alone : ∀ m, m ≠ k → s.seqOf m = none) (needs : s.lifecycle = l.needs f) (next : s.schedule = .proc k :: es) :
    step (s.setSeq k (.teardown l f)) = .next (teardownAction k l f { s with schedule := es }) := by
  have may : (s.setSeq k (.teardown l f)).processMayStep = true := by simp [State.processMayStep, idle]
  have position : (s.setSeq k (.teardown l f)).seqOf k = some (.teardown l f) := by simp [State.seqOf_setSeq, present]
  have quiet : State.othersBusy (State.setSeq { s with schedule := es } k (.teardown l f)) k = false := by
    rw [Bool.eq_false_iff, ne_eq, State.othersBusy_iff]
    rintro ⟨m, q, other, busy⟩
    rw [State.seqOf_setSeq_ne _ _ other.symm] at busy
    exact absurd ((alone m other).symm.trans busy) nofun
  rw [step_proc (s := s.setSeq k (.teardown l f)) valid next may position]
  refine (teardownStep_of_ok (s := State.setSeq { s with schedule := es } k (.teardown l f)) (fun _ => ⟨idle, quiet⟩) needs).trans ?_
  rw [teardownAction_setSeq]

/-- The values that the UART's registers and holdings take when they lose their contents (R190; log 14). -/
def State.uartDraws (s : State) : ResetDraws where
  txHold   := s.scrambleUart.txHold
  rxFifo   := s.scrambleUart.rxFifo
  lcr      := s.scrambleUart.lcr
  dll      := s.scrambleUart.dll
  dlh      := s.scrambleUart.dlh
  ier      := s.scrambleUart.ier
  mode     := s.scrambleUart.mode
  storage  := s.storage
  rxLine   := s.rxLine
  schedule := s.schedule
  draws    := s.scrambleUart.draws

/-- Settles O58: the start and the four steps, each in the lifecycle state the one before leaves. -/
theorem teardownReversesBringUp : Obligations.TeardownReversesBringUp := by
  intro s k p es valid running idle quiescent context next
  obtain ⟨free, may, present, alone⟩ := idle_context idle quiescent context
  have started := step_start_of_inl valid may context free rfl next
  have t1 := step_teardown (s := { s with schedule := .proc k :: .proc k :: .proc k :: .proc k :: es })
    (l := .t1) (f := none) valid idle present alone running rfl
  have t2 := step_teardown (s := { s with
    handlerAttached := false, lifecycle := .interruptsDisabled, schedule := .proc k :: .proc k :: .proc k :: es })
    (l := .t2) (f := none) valid idle present alone rfl rfl
  have t3 := step_teardown (s := { s with
    handlerAttached := false, lifecycle := .unregistered, schedule := .proc k :: .proc k :: es })
    (l := .t3) (f := none) valid idle present alone rfl rfl
  have t4 := step_teardown (s := State.setLifecycle (State.scrambleUart { s with
    handlerAttached := false, lifecycle := .unregistered, schedule := .proc k :: es }) .registersUnmapped)
    (l := .t4) (f := none) valid idle present alone rfl rfl
  refine ⟨?_, ?_, rfl, rfl, rfl, s.uartDraws, List.length_take_le _ _, Nat.lt_add_of_pos_right (by decide), ?_, ?_⟩
  · exact (run_two started t1).trans (congrArg _ (State.setSeq_eq_set _ context))
  · exact ((run_succ started).trans (run_two t1 t2)).trans (congrArg _ (State.setSeq_eq_set _ context))
  · exact (run_four started t1 t2 t3).trans (congrArg _ (State.setSeq_eq_set _ context))
  · exact ((run_succ started).trans (run_four t1 t2 t3 t4)).trans (congrArg _ (State.endOp_eq_set _ _ _))

/-- Settles O60: the start and the three steps of the unwinding, whose outcome is the error. -/
theorem failedBringUpUnwinds : Obligations.FailedBringUpUnwinds := by
  intro s k e es valid failed idle quiescent context next
  obtain ⟨p, context⟩ := context
  obtain ⟨free, may, present, alone⟩ := idle_context idle quiescent context
  have started := step_start_of_inl valid may context free rfl next
  have t1 := step_teardown (s := { s with schedule := .proc k :: .proc k :: .proc k :: es })
    (l := .t1) (f := some e) valid idle present alone failed rfl
  have t3 := step_teardown (s := { s with
    handlerAttached := false, lifecycle := .interruptsDisabled, schedule := .proc k :: .proc k :: es })
    (l := .t3) (f := some e) valid idle present alone rfl rfl
  have t4 := step_teardown (s := State.setLifecycle (State.scrambleUart { s with
    handlerAttached := false, lifecycle := .interruptsDisabled, schedule := .proc k :: es }) .registersUnmapped)
    (l := .t4) (f := some e) valid idle present alone rfl rfl
  refine ⟨_, run_four started t1 t3 t4, rfl, rfl, rfl, rfl, ?_⟩
  rw [teardownAction, State.endOp_eq_set]
  cases e <;> exact List.getElem?_set_self present

/-! ### `INIT` (R182) -/

/-- What each step of `INIT` does, beside moving on. -/
def State.initEffect (s : State) : InitLabel → State
  | .i1 => { s with mode := s.cfg.modeExt, result := .noValue }
  | .i2 => { s with txHold := none, rxFifo := [], result := .noValue }
  | .i3 => { s with lcr := s.cfg.lcrDle, result := .noValue }
  | .i4 => { s with dll := divisorLow s.cfg.divisor, result := .noValue }
  | .i5 => { s with dlh := divisorHigh s.cfg.divisor, result := .noValue }
  | .i6 => { s with lcr := s.cfg.lcrWlen8, result := .noValue }
  | .i7 => { s with mode := s.cfg.modeNormal, lifecycle := .hardwareConfigured, result := .noValue }
  | .i8 => s.attachHandler
  | .i9 => { s with ier := s.cfg.ierRdi, lifecycle := .interruptsEnabled, result := .noValue }

/-- The state with context `k` before the label. -/
def State.atInit (s : State) (k : Nat) (l : InitLabel) (es : List Event) : State :=
  State.setSeq { s with schedule := es } k (.init l)

/-- A byte under a mask has no bit outside any wider mask. -/
theorem within_or_of_and_eq {b mask : Byte} (h : b &&& mask = b) (wider : Byte) : within b (mask ||| wider) = true := by
  rw [within_eq_true, ← h]
  ext i hi
  simp +contextual

/-- The bits of one mask in two masks together. -/
theorem or_and_left (a b : Byte) : (a ||| b) &&& a = a := by
  ext i hi
  simp +contextual

theorem or_and_right (a b : Byte) : (a ||| b) &&& b = b := by
  rw [BitVec.or_comm, or_and_left]

section
variable {c : Config} (h : c.Separated)
include h

/-- `I3` opens the latches with an accepted value (R105). -/
theorem lcrAccepted_latchBit : lcrAccepted c c.lcrDle = true := by
  have inside := within_or_of_and_eq (BitVec.and_self (x := c.lcrDle)) c.lcrWlenMask
  rw [BitVec.or_comm] at inside
  simp [lcrAccepted, inside, h.latchBit]

/-- The 8-bit code has not the latch bit: it lies in its field, apart from that bit (R6). -/
theorem wlenCode_and_latchBit : c.lcrWlen8 &&& c.lcrDle = 0x00#8 := by
  have apart : c.lcrWlenMask &&& c.lcrDle = 0x00#8 := (c.masksValid_iff.1 ((c.valid_iff.1 h.valid).2.2.2.2.2.2.2.1)).1
  rw [← h.wlenCode, BitVec.and_assoc, apart, BitVec.and_zero]

/-- `I6` closes them with the 8-bit code (R105). -/
theorem lcrAccepted_wlenCode : lcrAccepted c c.lcrWlen8 = true := by
  simp [lcrAccepted, within_or_of_and_eq h.wlenCode c.lcrDle, h.wlenCode]

end

section
variable {s : State}

/-- The write of a byte that Mode accepts (R115). -/
theorem exec_wrMode_zext32 {b : Byte} (accepted : modeAccepted s.cfg b = true) :
    exec (.wrMode (zext32 b)) s = .next { s with mode := b, result := .noValue } := by
  rw [exec_wrMode_of_accepted (by rw [lowByte_zext32]; exact accepted), lowByte_zext32]

/-- A write of both clear bits empties both holdings (R111). -/
theorem exec_wrFcr_both (separated : s.cfg.Separated) :
    exec (.wrFcr (zext32 (s.cfg.fcrClrRx ||| s.cfg.fcrClrTx))) s =
      .next { s with txHold := none, rxFifo := [], result := .noValue } := by
  have accepted : fcrAccepted s.cfg (s.cfg.fcrClrRx ||| s.cfg.fcrClrTx) = true := by simp [fcrAccepted]
  rw [exec_wrFcr_of_accepted (by rw [lowByte_zext32]; exact accepted), lowByte_zext32, or_and_left, or_and_right,
    if_neg separated.clearRxBit, if_neg separated.clearTxBit]

/-- A write of Line Control in extended mode stores an accepted value and records no fault (R105). -/
theorem exec_wrLcr_of_extended {b : Byte} (accepted : lcrAccepted s.cfg b = true) (extended : s.mode = s.cfg.modeExt) :
    exec (.wrLcr (zext32 b)) s = .next { s with lcr := b, result := .noValue } := by
  rw [exec_wrLcr_of_accepted (by rw [lowByte_zext32]; exact accepted), lowByte_zext32, State.configFaults, if_pos extended]

/-- A write of a latch in extended mode records no fault (R107). -/
theorem exec_wrDll_of_extended (b : Byte) (extended : s.mode = s.cfg.modeExt) :
    exec (.wrDll (zext32 b)) s = .next { s with dll := b, result := .noValue } := by
  rw [exec_wrDll, lowByte_zext32, State.configFaults, if_pos extended]

/-- The same for the high latch (R109). -/
theorem exec_wrDlh_of_extended (b : Byte) (extended : s.mode = s.cfg.modeExt) :
    exec (.wrDlh (zext32 b)) s = .next { s with dlh := b, result := .noValue } := by
  rw [exec_wrDlh, lowByte_zext32, State.configFaults, if_pos extended]

/-- The write of the receive-data-interrupt bit (R113). -/
theorem exec_wrIer_rdi : exec (.wrIer (zext32 s.cfg.ierRdi)) s = .next { s with ier := s.cfg.ierRdi, result := .noValue } := by
  have accepted : ierAccepted s.cfg s.cfg.ierRdi = true := by simp [ierAccepted]
  rw [exec_wrIer_of_accepted (by rw [lowByte_zext32]; exact accepted), lowByte_zext32]

end

/-- What every step of `INIT` needs beside its lifecycle state: the parameters keep the fields apart, the lock is free, and the context
exists and may step. -/
structure Initialising (k : Nat) (s : State) : Prop where
  separated : s.cfg.Separated
  free      : s.registerLock = none
  may       : s.processMayStep = true
  present   : k < s.procs.length

namespace Initialising

variable {s : State} {k : Nat} {es : List Event}

theorem effect (h : Initialising k s) (l : InitLabel) : Initialising k (s.initEffect l) := by
  obtain ⟨separated, free, may, present⟩ := h
  cases l <;> exact ⟨separated, free, may, present⟩

/-- The step of the context is the action of its label. -/
theorem step_eq (h : Initialising k s) {l : InitLabel} (needs : s.lifecycle = l.needs)
    (first : l = .i1 → (s.atInit k .i1 es).initUnderWay = false) :
    step (s.atInit k l (.proc k :: es)) = initAction k l (s.atInit k l es) := by
  have position : (s.atInit k l (.proc k :: es)).seqOf k = some (.init l) := by
    simp [State.atInit, State.seqOf_setSeq, h.present]
  have noOther : ¬ (l = .i1 ∧ (s.atInit k l es).initUnderWay = true) := by
    rintro ⟨rfl, underWay⟩
    exact absurd ((first rfl).symm.trans underWay) (by decide)
  rw [step_proc (s := s.atInit k l (.proc k :: es)) h.separated.valid rfl h.may position]
  exact (if_neg (not_not.2 needs)).trans (if_neg noOther)

/-- Moving on to the next label. -/
theorem goInit_atInit (s : State) (k : Nat) (l l' : InitLabel) (es : List Event) :
    goInit k l' (s.atInit k l es) = .next (s.atInit k l' es) :=
  congrArg Host.Outcome.next (State.setSeq_setSeq { s with schedule := es } k (.init l) (.init l'))

/-- A step that writes a register goes on from what the write leaves. -/
theorem step_write (h : Initialising k s) {s' : State} {l : InitLabel} {off : Nat} {v : Word} {after : State → Answer State}
    (r : Reg) {i : Instr} (needs : s.lifecycle = l.needs) (first : l = .i1 → (s.atInit k .i1 es).initUnderWay = false)
    (action : initAction k l (s.atInit k l es) = lockedWrite k v off (s.atInit k l es) after)
    (offset : s.cfg.offset r = off) (reaches : s.cfg.reachable s.dle r true = true) (access : accessInstr r true v = some i)
    (completes : exec i (s.atInit k l es) = .next (s'.atInit k l es)) (result : s'.result = .noValue) :
    step (s.atInit k l (.proc k :: es)) = after (s'.atInit k l es) := by
  have mapped : s.mapped = true := by rw [State.mapped, needs, l.needs_mapped]
  rw [h.step_eq needs first, action]
  exact lockedWrite_of_completes (s := s.atInit k l es) r h.separated.valid mapped h.free offset reaches access completes
    result

/-- `I1`: extended mode. -/
theorem step_i1 (h : Initialising k s) (mapped : s.lifecycle = .registersMapped)
    (first : (s.atInit k .i1 es).initUnderWay = false) :
    step (s.atInit k .i1 (.proc k :: es)) = .next ((s.initEffect .i1).atInit k .i2 es) :=
  (h.step_write (s' := s.initEffect .i1) (l := .i1) .mode mapped (fun _ => first) rfl rfl rfl rfl
    (exec_wrMode_zext32 (s := s.atInit k .i1 es) (modeAccepted_iff.2 (.inl rfl))) rfl).trans (goInit_atInit _ _ _ _ _)

/-- `I2`: both holdings emptied. -/
theorem step_i2 (h : Initialising k s) (mapped : s.lifecycle = .registersMapped) :
    step (s.atInit k .i2 (.proc k :: es)) = .next ((s.initEffect .i2).atInit k .i3 es) :=
  (h.step_write (s' := s.initEffect .i2) (l := .i2) .fcr mapped nofun rfl rfl rfl rfl
    (exec_wrFcr_both (s := s.atInit k .i2 es) h.separated) rfl).trans (goInit_atInit _ _ _ _ _)

/-- `I3`: the latches opened. -/
theorem step_i3 (h : Initialising k s) (mapped : s.lifecycle = .registersMapped) (extended : s.mode = s.cfg.modeExt) :
    step (s.atInit k .i3 (.proc k :: es)) = .next ((s.initEffect .i3).atInit k .i4 es) :=
  (h.step_write (s' := s.initEffect .i3) (l := .i3) .lcr mapped nofun rfl rfl rfl rfl
    (exec_wrLcr_of_extended (s := s.atInit k .i3 es) (lcrAccepted_latchBit h.separated) extended) rfl).trans
    (goInit_atInit _ _ _ _ _)

/-- With the latch bit alone in Line Control the latches are open (R86). -/
theorem dle_of_latchBit (h : Initialising k s) (latch : s.lcr = s.cfg.lcrDle) : s.dle = true := by
  simp [State.dle, latch, h.separated.latchBit]

/-- With the 8-bit code in Line Control the latches are closed (R86). -/
theorem dle_of_wlenCode (h : Initialising k s) (code : s.lcr = s.cfg.lcrWlen8) : s.dle = false := by
  simp [State.dle, code, wlenCode_and_latchBit h.separated]

/-- `I4`: the low byte of the divisor. -/
theorem step_i4 (h : Initialising k s) (mapped : s.lifecycle = .registersMapped) (extended : s.mode = s.cfg.modeExt)
    (latch : s.lcr = s.cfg.lcrDle) :
    step (s.atInit k .i4 (.proc k :: es)) = .next ((s.initEffect .i4).atInit k .i5 es) :=
  (h.step_write (s' := s.initEffect .i4) (l := .i4) .dll mapped nofun rfl rfl (h.dle_of_latchBit latch) rfl
    (exec_wrDll_of_extended (s := s.atInit k .i4 es) _ extended) rfl).trans (goInit_atInit _ _ _ _ _)

/-- `I5`: the high byte of the divisor. -/
theorem step_i5 (h : Initialising k s) (mapped : s.lifecycle = .registersMapped) (extended : s.mode = s.cfg.modeExt)
    (latch : s.lcr = s.cfg.lcrDle) :
    step (s.atInit k .i5 (.proc k :: es)) = .next ((s.initEffect .i5).atInit k .i6 es) := by
  have reaches : s.cfg.reachable s.dle .dlh true = true := by
    simp [Config.reachable, h.dle_of_latchBit latch, h.separated.latchesApart]
  exact (h.step_write (s' := s.initEffect .i5) (l := .i5) .dlh mapped nofun rfl rfl reaches rfl
    (exec_wrDlh_of_extended (s := s.atInit k .i5 es) _ extended) rfl).trans (goInit_atInit _ _ _ _ _)

/-- `I6`: the latches closed, the 8-bit format. -/
theorem step_i6 (h : Initialising k s) (mapped : s.lifecycle = .registersMapped) (extended : s.mode = s.cfg.modeExt) :
    step (s.atInit k .i6 (.proc k :: es)) = .next ((s.initEffect .i6).atInit k .i7 es) :=
  (h.step_write (s' := s.initEffect .i6) (l := .i6) .lcr mapped nofun rfl rfl rfl rfl
    (exec_wrLcr_of_extended (s := s.atInit k .i6 es) (lcrAccepted_wlenCode h.separated) extended) rfl).trans
    (goInit_atInit _ _ _ _ _)

/-- `I7`: normal mode, and the next lifecycle state. -/
theorem step_i7 (h : Initialising k s) (mapped : s.lifecycle = .registersMapped) :
    step (s.atInit k .i7 (.proc k :: es)) = .next ((s.initEffect .i7).atInit k .i8 es) :=
  (h.step_write (s' := { s with mode := s.cfg.modeNormal, result := .noValue }) (l := .i7) .mode mapped nofun rfl rfl rfl rfl
    (exec_wrMode_zext32 (s := s.atInit k .i7 es) (modeAccepted_iff.2 (.inr rfl))) rfl).trans
    (goInit_atInit (s.initEffect .i7) k .i7 .i8 es)

/-- `I8`: the handler attached. -/
theorem step_i8 (h : Initialising k s) (configured : s.lifecycle = .hardwareConfigured) :
    step (s.atInit k .i8 (.proc k :: es)) = .next ((s.initEffect .i8).atInit k .i9 es) :=
  (h.step_eq (l := .i8) configured nofun).trans (goInit_atInit (s.initEffect .i8) k .i8 .i9 es)

/-- `I9`: the receive interrupt enabled, and the end of the operation. -/
theorem step_i9 (h : Initialising k s) (configured : s.lifecycle = .hardwareConfigured) (closed : s.dle = false) :
    step (s.atInit k .i9 (.proc k :: es)) = .next (State.endOp { s.initEffect .i9 with schedule := es } k .noValue) := by
  have reaches : s.cfg.reachable s.dle .ier true = true := by
    simp [Config.reachable, Config.hiddenByLatch, closed, h.separated.enableApart]
  refine (h.step_write (s' := { s with ier := s.cfg.ierRdi, result := .noValue }) (l := .i9) .ier configured nofun rfl rfl
    reaches rfl (exec_wrIer_rdi (s := s.atInit k .i9 es)) rfl).trans (congrArg Host.Outcome.next ?_)
  exact State.endOp_setSeq { s.initEffect .i9 with schedule := es } k (.init .i9) .noValue

end Initialising

/-- Settles O56: the nine steps one by one, each finding the mode and the latches as the ones before left them. -/
theorem initEndsInTheConfiguredState : Obligations.InitEndsInTheConfiguredState := by
  intro s k es separated mapped free may context others next
  obtain ⟨p, context, idle⟩ := context
  have present : k < s.procs.length := (List.getElem?_eq_some_iff.1 context).1
  have h0 : Initialising k s := ⟨separated, free, may, present⟩
  have first (es : List Event) : (s.atInit k .i1 es).initUnderWay = false := by
    rw [Bool.eq_false_iff, ne_eq, State.initUnderWay_iff]
    rintro ⟨m, l, position, past⟩
    by_cases same : k = m
    · subst same
      simp [State.atInit, State.seqOf_setSeq, present, past.symm] at position
    · exact past (others m l ((State.seqOf_setSeq_ne _ _ same).symm.trans position))
  have h1 := h0.effect .i1
  have h2 := h1.effect .i2
  have h3 := h2.effect .i3
  have h4 := h3.effect .i4
  have h5 := h4.effect .i5
  have h6 := h5.effect .i6
  have h7 := h6.effect .i7
  have h8 := h7.effect .i8
  have started := step_start_of_inl separated.valid may context idle rfl next
  have run := (run_succ (n := 9) started).trans <| (run_succ (h0.step_i1 mapped (first _))).trans <|
    (run_succ (h1.step_i2 mapped)).trans <| (run_succ (h2.step_i3 mapped rfl)).trans <|
    (run_succ (h3.step_i4 mapped rfl rfl)).trans <| (run_succ (h4.step_i5 mapped rfl rfl)).trans <|
    (run_succ (h5.step_i6 mapped rfl)).trans <| (run_succ (h6.step_i7 mapped)).trans <|
    run_two (h7.step_i8 rfl) (h8.step_i9 (es := es) rfl (h8.dle_of_wlenCode rfl))
  exact run.trans (congrArg Host.Outcome.next (State.endOp_eq_set _ _ _))

end Sys2Proof.Machine
end
